-- ==== Sys2Proof/Word.lean ====
section
/-! DEFINITION. The words of the PX24: the sizes its registers and records use (section 3.2 of
`00_scope.md`), and the numbers of its rings, lanes, faces, slots, surfaces and counters (Table 3). -/

namespace Sys2Proof

/-- An 8-bit byte of a record or of frame memory. -/
abbrev Byte := BitVec 8

/-- A 16-bit field: a character code, a tag, one glyph row. -/
abbrev Half := BitVec 16

/-- A 32-bit register, host address or counter value. -/
abbrev Word := BitVec 32

/-- Ring 0 to ring 3 (R129). -/
abbrev RingId := Fin 4

/-- Lane 0 to lane 7 (R30). -/
abbrev LaneId := Fin 8

/-- Face 0 to face 7 (R1). -/
abbrev FaceId := Fin 8

/-- Slot 0 to slot 383 of the glyph store (R6). -/
abbrev SlotId := Fin 384

/-- Surface 0 to surface 15 (R90). -/
abbrev SurfaceId := Fin 16

/-- Counter 0 to counter 15 (R177). -/
abbrev CounterId := Fin 16

/-- Blink class 1, 2, 3, held as 0, 1, 2 (R67); class 0 has no record. -/
abbrev BlinkId := Fin 3

end Sys2Proof
end

