-- ==== Sys2Proof/Config.lean ====
section
/-! DEFINITION. What one PX24 fixes: its capacities (Table 3), and the one value its manual leaves open. -/

namespace Sys2Proof.Config

/-- The report buffer holds at most 8 entries (R162). -/
def reportBufferSize : Nat := 8

/-- At most 128 slots are in state USER (R10). -/
def userSlotLimit : Nat := 128

/-- A group holds at most 16 entries (R145). -/
def groupLimit : Nat := 16

/-- A lane holds at most 128 cells (R31). -/
def laneCells : Nat := 128

/-- Frame memory is 1 MiB: LOCAL addresses 00000H to FFFFFH (R89). -/
def frameMemorySize : Nat := 0x100000

/-- The greatest host address, 0FFFFFFFFH. -/
def hostTop : Nat := 0xFFFFFFFF

/-- What a byte of frame memory reads as where nothing has written it. DESIGN CHOICE (log entry 1): the
manual gives frame memory no contents at power-on. -/
def frameMemoryFill : Byte := 0

/-- How many consequences one handling may have in this model (log entry 12): more than any reachable
state has, since at most four entries are in service and each preloads at most 65,536 codes. -/
def handlingLimit : Nat := 1048576

/-- The 16-bit detail an answer carries where the count it should hold does not fit 16 bits: a
GLYPH_PRELOAD of all 65,536 codes whose first code is answered NO_SLOT (R23 asks for 65536, R159 gives
detail A 0..65535). DESIGN CHOICE (log entry 2): a free value, nothing constrains it. -/
opaque detailOverflow : Nat → Half

end Sys2Proof.Config
end

