-- ==== Sys2Proof/Syntax.lean ====
section
/-! DEFINITION. The commands of the PX24: one constructor of `Instr` for each row of `opcode_table.json`.

A command is one happening of the part (sections 3.6 and 1.4 of the manual): a register write of the host,
the end of a bus transfer, a block's taking of what another block sent it, a run-out of the frame timer, a
reset. What the outside supplies travels in the command: the value a register write carries, and the bytes
a read of host memory returned. What the part itself sends from block to block waits in `State` until the
command that takes it. -/

namespace Sys2Proof

/-- How a read made through the Memory Port ended (section 4, "Bus error"): with the bytes host memory
returned, lowest address first, or with an error answer. -/
inductive ReadEnd where
  | ok (bytes : List Byte)
  | busError
  deriving DecidableEq, Repr

/-- What a cell-list read does next (R39): it delivers records and stays in flight, it delivers its last
records and ends, or it ends with a bus error. -/
inductive CellRead where
  | delivers (bytes : List Byte)
  | ends (bytes : List Byte)
  | busError
  deriving DecidableEq, Repr

/-- The eight registers of the Host Port (Table 50). -/
inductive Register where
  | ctrl | stat | setup | rcmd | rrel | evt | evten | fcnt
  deriving DecidableEq, Repr

/-- The size of a register access (R203). -/
inductive AccessSize where
  | bits8 | bits16 | bits32
  deriving DecidableEq, Repr

/-- A fatal fault on its way to the Host Port (R197). -/
inductive FatalFault where
  | reportBus
  | statusBus (ring : RingId)
  deriving DecidableEq, Repr

/-- The commands, in the order of `opcode_table.json`. A work entry kind's command is its owner's taking of
the entry that the Intake Unit handed over for `ring`; its operands are those of that entry (R204). -/
inductive Instr where
  /-- POWER_ON_RESET (R202). -/
  | powerOnReset
  /-- CTRL_RUN (R191): a 32-bit CTRL write with RESET clear. -/
  | ctrlRun (value : Word)
  /-- CTRL_RESET (R199): a 32-bit CTRL write with RESET set. -/
  | ctrlReset (value : Word)
  /-- SETUP_WRITE (R192). -/
  | setupWrite (value : Word)
  /-- RCMD_POST (R135): also the RCMD writes whose operation is none of the four (R134). -/
  | rcmdPost (value : Word)
  /-- RCMD_STOP (R136). -/
  | rcmdStop (value : Word)
  /-- RCMD_RESUME (R139). -/
  | rcmdResume (value : Word)
  /-- RCMD_FLUSH (R140). -/
  | rcmdFlush (value : Word)
  /-- RREL_WRITE (R170). -/
  | rrelWrite (value : Word)
  /-- EVT_WRITE (R171). -/
  | evtWrite (value : Word)
  /-- EVTEN_WRITE (R172). -/
  | evtenWrite (value : Word)
  /-- IGNORED_REGISTER_WRITE (R203). -/
  | ignoredRegisterWrite (reg : Register) (size : AccessSize) (value : Word)
  /-- SETUP_READ_END (R193). -/
  | setupReadEnd (read : ReadEnd)
  /-- SETUP_LOAD_END (R194). -/
  | setupLoadEnd
  /-- SOFT_RESET_REINIT (R200). -/
  | softResetReinit
  /-- FATAL_FAULT (R197). -/
  | fatalFault (fault : FatalFault)
  /-- INTAKE_HALT_ANNOUNCEMENT (R158). -/
  | intakeHaltAnnouncement
  /-- REPORT_UNIT_HALT_ANNOUNCEMENT (R175). -/
  | reportUnitHaltAnnouncement
  /-- GLYPH_TABLE_HALT_ANNOUNCEMENT (R29). -/
  | glyphTableHaltAnnouncement
  /-- RASTER_HALT_ANNOUNCEMENT (R128). -/
  | rasterHaltAnnouncement
  /-- LANE_UNIT_HALT_ANNOUNCEMENT (R53). -/
  | laneUnitHaltAnnouncement
  /-- SYNC_TABLE_HALT_ANNOUNCEMENT (R187). -/
  | syncTableHaltAnnouncement
  /-- PRESENTATION_HALT_ANNOUNCEMENT (R87). -/
  | presentationHaltAnnouncement
  /-- FRAME_START (R75). -/
  | frameStart
  /-- BLINK_PHASE_TOGGLE (R67). -/
  | blinkPhaseToggle (blink : BlinkId)
  /-- LANE_FRAME_START (R56). -/
  | laneFrameStart
  /-- MARQUEE_STEP (R57). -/
  | marqueeStep (lane : LaneId)
  /-- STEP_JUMP (R58). -/
  | stepJump (lane : LaneId)
  /-- HOST_PORT_FRAME_START (R173). -/
  | hostPortFrameStart
  /-- SYNC_FRAME_START (R183). -/
  | syncFrameStart
  /-- WAIT_TIMEOUT (R183). -/
  | waitTimeout (ring : RingId)
  /-- FRAME_WAIT_END (R185). -/
  | frameWaitEnd (ring : RingId)
  /-- LANE_ADDITION (R181). -/
  | laneAddition (counter : CounterId)
  /-- SYNC_CANCEL_REQUEST (R186). -/
  | syncCancelRequest (ring : RingId)
  /-- PRESENT_CANCEL_REQUEST (R82). -/
  | presentCancelRequest (ring : RingId)
  /-- ENTRY_FETCH_END (R142). -/
  | entryFetchEnd (read : ReadEnd)
  /-- OWNER_ANSWER (R148). -/
  | ownerAnswer (ring : RingId)
  /-- REPORT_ACCEPTED (R156). -/
  | reportAccepted (ring : RingId)
  /-- STATUS_WORD_WRITE_END (R157). -/
  | statusWordWriteEnd (ring : RingId) (busError : Bool)
  /-- REPORT_WRITE_END (R168). -/
  | reportWriteEnd (busError : Bool)
  /-- NOP (R147). -/
  | nop (ring : RingId)
  /-- FACE_LOAD (R3). -/
  | faceLoad (ring : RingId)
  /-- FACE_DROP (R4). -/
  | faceDrop (ring : RingId)
  /-- GLYPH_PRELOAD (R22). -/
  | glyphPreload (ring : RingId)
  /-- GLYPH_DEFINE (R24). -/
  | glyphDefine (ring : RingId)
  /-- GLYPH_RELEASE (R27). -/
  | glyphRelease (ring : RingId)
  /-- GLYPH_FILL_END (R19). -/
  | glyphFillEnd (read : ReadEnd)
  /-- DEFINE_READ_END (R25). -/
  | defineReadEnd (read : ReadEnd)
  /-- SURFACE_SET (R95). -/
  | surfaceSet (ring : RingId)
  /-- CLIP_SET (R96). -/
  | clipSet (ring : RingId)
  /-- FILL (R116). -/
  | fill (ring : RingId)
  /-- COPY (R117). -/
  | copy (ring : RingId)
  /-- EXPAND (R120). -/
  | expand (ring : RingId)
  /-- TEXT (R121). -/
  | text (ring : RingId)
  /-- CODE_LIST_READ_END (R122). -/
  | codeListReadEnd (read : ReadEnd)
  /-- RASTER_TRANSFER_END (R113): `read` is what a HOST transfer returned; a LOCAL one takes nothing from it. -/
  | rasterTransferEnd (read : ReadEnd)
  /-- LANE_SET (R35). -/
  | laneSet (ring : RingId)
  /-- LANE_TEXT_WRITE (R42). -/
  | laneTextWrite (ring : RingId)
  /-- LANE_TEXT_INSERT (R43). -/
  | laneTextInsert (ring : RingId)
  /-- LANE_TEXT_DELETE (R45). -/
  | laneTextDelete (ring : RingId)
  /-- LANE_TEXT_CLEAR (R46). -/
  | laneTextClear (ring : RingId)
  /-- LANE_TEXT_CURSOR (R47). -/
  | laneTextCursor (ring : RingId)
  /-- CELL_LIST_READ_END (R39): `abandoned` says that the read is one whose edit was abandoned earlier. -/
  | cellListReadEnd (abandoned : Bool) (read : CellRead)
  /-- LANE_VIEW_SHOW (R48). -/
  | laneViewShow (ring : RingId)
  /-- LANE_VIEW_HIDE (R48). -/
  | laneViewHide (ring : RingId)
  /-- LANE_VIEW_REFRESH (R49). -/
  | laneViewRefresh (ring : RingId)
  /-- LANE_VIEW_RELEASE (R51). -/
  | laneViewRelease (ring : RingId)
  /-- LANE_MOTION_START (R64). -/
  | laneMotionStart (ring : RingId)
  /-- LANE_MOTION_PAUSE (R64). -/
  | laneMotionPause (ring : RingId)
  /-- LANE_MOTION_RESUME (R64). -/
  | laneMotionResume (ring : RingId)
  /-- LANE_MOTION_STOP (R64). -/
  | laneMotionStop (ring : RingId)
  /-- LANE_MOTION_SET_OFFSET (R65). -/
  | laneMotionSetOffset (ring : RingId)
  /-- PRESENT (R80). -/
  | present (ring : RingId)
  /-- SIGNAL_ADD (R179). -/
  | signalAdd (ring : RingId)
  /-- SIGNAL_SET (R179). -/
  | signalSet (ring : RingId)
  /-- WAIT (R182). -/
  | wait (ring : RingId)
  /-- WAIT_FRAME (R185). -/
  | waitFrame (ring : RingId)
  deriving DecidableEq, Repr

end Sys2Proof
end

