-- ==== Sys2Proof/Decode.lean ====
section
/-! DEFINITION. The command a word spells by the bits of `opcode_table.json`. -/

namespace Sys2Proof

/-- The table gives no row any bits: its commands come from register accesses, bus transfer ends and the
blocks themselves, so no word spells one (log entry 10). -/
def decodeTableWord (_nbits _w : Nat) : Option Instr := none

end Sys2Proof
end

