-- ==== Sys2Proof/Machine/State.lean ====
section
/-! DEFINITION. The state of the PX24, block by block, as plain data, and its value right after power-on
reset. Every structure names the table of the manual it holds. Fields that are the model's own are said to
be so. -/

namespace Sys2Proof.Machine

/-! ## Work entries, answers and reports -/

/-- The work entry kinds of Table 2. -/
inductive Kind where
  | nop
  | faceLoad | faceDrop | glyphPreload | glyphDefine | glyphRelease
  | surfaceSet | clipSet
  | fill | copy | expand | text
  | laneSet | laneText | laneView | laneMotion
  | present
  | signal | wait | waitFrame
  deriving DecidableEq, Repr

/-- A 32-byte work entry as it was fetched (R143): byte k of the list is the byte at offset k. -/
structure WorkEntry where
  bytes : List Byte
  deriving DecidableEq, Repr

/-- A work entry together with the ring it came from. -/
structure RingEntry where
  ring : RingId
  entry : WorkEntry
  deriving DecidableEq, Repr

/-- The status codes of Table 37. -/
inductive Status where
  | ok | partially | badKind | badChain | badOperand | notSet | inUse | noSlot | busError
  | waitTimeout | cancelled | flushed | lanePass | laneDone
  deriving DecidableEq, Repr

/-- An owner's answer to the Intake Unit (R146, R148). -/
structure Answer where
  status : Status
  detailA : Half
  detailB : Half
  deriving DecidableEq, Repr

/-- A host-memory read in flight: its address and its number of bytes. -/
structure ReadSpan where
  addr : Nat
  len : Nat
  deriving DecidableEq, Repr

/-! ## Glyph Table (chapter 1) -/

/-- State of a face (Table 6). -/
inductive FaceState where
  | empty | loaded
  deriving DecidableEq, Repr

/-- A face record (Table 6). -/
structure Face where
  state : FaceState
  base : Word
  first : Half
  last : Half
  substitute : Half
  width : Nat
  height : Nat
  advance : Nat
  stride : Nat
  deriving DecidableEq, Repr

/-- An EMPTY face: every other field is 0 (R4, R28). -/
def Face.none : Face := ⟨.empty, 0, 0, 0, 0, 0, 0, 0, 0⟩

/-- A key: the pair (face, code) (R7). -/
structure Key where
  face : FaceId
  code : Half
  deriving DecidableEq, Repr

/-- The four users of the fetch queue (R11). -/
inductive Requester where
  | text | laneEdit | preload | define
  deriving DecidableEq, Repr

/-- The answers of a lookup (Table 9). -/
inductive LookupAnswer where
  | slot (n : SlotId) | notSet | missing | noSlot | busError
  deriving DecidableEq, Repr

/-- State of a slot (Table 7). -/
inductive SlotState where
  | free | filling | resident | user
  deriving DecidableEq, Repr

/-- The 32 rows of 16 bits of a glyph; bit 15 is the leftmost pixel (R6). -/
abbrev Bitmap := Vector Half 32

/-- A slot record (Table 7). The keys of the slots are the key map (R7). -/
structure Slot where
  state : SlotState
  key : Option Key
  pins : Nat
  bitmap : Bitmap
  waiters : List Requester
  defineWait : Bool
  deriving DecidableEq, Repr

/-- A FREE slot as R28 gives it. -/
def Slot.none : Slot := ⟨.free, .none, 0, Vector.replicate 32 0, [], false⟩

/-- A request of the fetch queue (R15, R26). -/
structure GlyphRequest where
  who : Requester
  key : Key
  deriving DecidableEq, Repr

/-- The fetch in progress (R17, R18): its slot, its requester unless withdrawn (R21), and its read. -/
structure GlyphFetch where
  slot : SlotId
  who : Option Requester
  read : ReadSpan
  deriving DecidableEq, Repr

/-- The owned entry in service; `code` is the code a GLYPH_PRELOAD looks up now (R22). -/
structure GlyphService where
  ring : RingId
  entry : WorkEntry
  code : Nat
  deriving DecidableEq, Repr

/-- The Glyph Table. -/
structure GlyphTable where
  faces : Vector Face 8
  slots : Vector Slot 384
  /-- Reclaim list, oldest first (R9). -/
  reclaim : List SlotId
  /-- Fetch queue, oldest first (R16). -/
  queue : List GlyphRequest
  fetch : Option GlyphFetch
  /-- Define staging buffer: the glyph rows read (R24). -/
  staging : Option (List Half)
  /-- The bitmap read of the GLYPH_DEFINE in service. -/
  defineRead : Option ReadSpan
  /-- Bitmap reads whose define was abandoned; they end without effect (R29). -/
  lostReads : List ReadSpan
  service : Option GlyphService
  /-- Entry queue (R5). -/
  entries : List RingEntry
  deriving DecidableEq, Repr

/-! ## Lane Unit (chapters 2 and 3) -/

/-- A cell of a lane (R31); `slot` is `none` for MISSING. -/
structure TextCell where
  code : Half
  slot : Option SlotId
  blink : BitVec 2
  inverse : Bool
  highlight : Bool
  deriving DecidableEq, Repr

/-- State of a lane (Table 12). -/
inductive LaneState where
  | unset | set
  deriving DecidableEq, Repr

/-- Visibility of a lane (Table 12). -/
inductive Visibility where
  | hidden | shown
  deriving DecidableEq, Repr

/-- Motion modes (Table 12). -/
inductive MotionMode where
  | fixed | marquee | step
  deriving DecidableEq, Repr

/-- Directions of motion (Table 12). -/
inductive Direction where
  | leftward | rightward
  deriving DecidableEq, Repr

/-- Event settings (Table 12). -/
inductive EventSetting where
  | none | done | eachPass
  deriving DecidableEq, Repr

/-- Motion of a lane (Table 12). -/
inductive Motion where
  | still | moving | paused
  deriving DecidableEq, Repr

/-- A pending event record (R62). -/
structure EventRecord where
  passes : Nat
  done : Bool
  deriving DecidableEq, Repr

/-- The Geometry, Look and Motion settings groups of Table 12: what a LANE_SET carries. -/
structure LaneSettings where
  x : Nat
  y : Nat
  w : Nat
  h : Nat
  face : FaceId
  ink : Byte
  paper : Byte
  altInk : Byte
  paperClear : Bool
  verticalOffset : Nat
  mode : MotionMode
  direction : Direction
  interval : Nat
  hold : Nat
  gap : Nat
  repeats : Nat
  events : EventSetting
  signal : Option CounterId
  deriving DecidableEq, Repr

/-- The values of these groups in an UNSET lane (Table 12). -/
def LaneSettings.none : LaneSettings :=
  ⟨0, 0, 0, 0, 0, 0, 0, 0, false, 0, .fixed, .leftward, 0, 0, 0, 0, .none, Option.none⟩

/-- A lane record (Table 12). -/
structure Lane where
  state : LaneState
  visibility : Visibility
  settings : LaneSettings
  cells : List TextCell
  cursor : Nat
  motion : Motion
  offset : Nat
  passCount : Nat
  countdown : Nat
  record : Option EventRecord
  deriving DecidableEq, Repr

/-- An UNSET lane (Table 12, last column). -/
def Lane.none : Lane :=
  ⟨.unset, .hidden, LaneSettings.none, [], 0, .still, 0, 0, 0, Option.none⟩

/-- A cell of the staging list; `position` is the place a REFRESH takes it to (R49). -/
structure StagedCell where
  cell : TextCell
  position : Nat
  deriving DecidableEq, Repr

/-- The three lane entries that take time (R32). -/
inductive EditKind where
  | write | insert | refresh
  deriving DecidableEq, Repr

/-- The lane entry in service: its lane, the cells it drops (R38), the records delivered and not yet looked
up, the number still to be delivered, the record whose lookup is outstanding, and its cell-list read. -/
structure LaneService where
  ring : RingId
  lane : LaneId
  edit : EditKind
  dropped : Nat
  todo : List StagedCell
  undelivered : Nat
  current : Option StagedCell
  read : Option ReadSpan
  deriving DecidableEq, Repr

/-- The Lane Unit. -/
structure LaneUnit where
  lanes : Vector Lane 8
  /-- Staging list (R39). -/
  staging : List StagedCell
  service : Option LaneService
  /-- Entry queue (R32). -/
  entries : List RingEntry
  /-- Cell-list reads whose edit was abandoned; they end without effect (R41, R53). -/
  lostReads : List ReadSpan
  deriving DecidableEq, Repr

/-! ## Surface Table (chapter 5) -/

/-- Where a surface's pixels lie (R92). -/
inductive Space where
  | loc | host
  deriving DecidableEq, Repr

/-- Scan hold of a surface (R78). -/
inductive Hold where
  | none | front | pending
  deriving DecidableEq, Repr

/-- A clip rectangle by inclusive corners (Table 22). -/
structure Clip where
  x0 : Nat
  y0 : Nat
  x1 : Nat
  y1 : Nat
  deriving DecidableEq, Repr

/-- State of a surface (Table 22). -/
inductive SurfaceState where
  | unset | set
  deriving DecidableEq, Repr

/-- A surface descriptor (Table 22); `clip` is `none` for EMPTY. -/
structure Surface where
  state : SurfaceState
  space : Space
  base : Word
  width : Nat
  height : Nat
  depth : Nat
  pitch : Nat
  clip : Option Clip
  hold : Hold
  mark : Bool
  deriving DecidableEq, Repr

/-- A descriptor after reset (Table 22, last column). -/
def Surface.none : Surface := ⟨.unset, .loc, 0, 0, 0, 0, 0, Option.none, .none, false⟩

/-! ## Raster Engine (chapter 6) -/

/-- Priority class of a ring (Table 31). -/
inductive RingClass where
  | normal | urgent
  deriving DecidableEq, Repr

/-- A claim (Table 26, note 1). -/
structure Claim where
  ring : RingId
  cls : RingClass
  entry : WorkEntry
  deriving DecidableEq, Repr

/-- The step of a SERVING engine (R106). -/
inductive RasterStep where
  | none | drawing | readingList | lookingUp
  deriving DecidableEq, Repr

/-- One pixel transfer of R112: the source read, the destination read with the source value it will be
mixed with, or the write of a destination byte. -/
inductive TransferKind where
  | sourceRead
  | destRead (source : Byte)
  | destWrite (byte : Byte)
  deriving DecidableEq, Repr

/-- The pixel transfer in flight. -/
structure RasterTransfer where
  kind : TransferKind
  space : Space
  addr : Nat
  deriving DecidableEq, Repr

/-- Where the drawing stands: the admitted row and column in working order (R113, R119), the bitmap row read
for this row of a stamp (R125), and the transfer in flight. -/
structure Drawing where
  row : Nat
  column : Nat
  rowBits : Half
  transfer : RasterTransfer
  deriving DecidableEq, Repr

/-- The captured face metrics (R110). -/
structure FaceMetrics where
  width : Nat
  height : Nat
  advance : Nat
  deriving DecidableEq, Repr

/-- The stamp in progress; `slot` is `none` for a missing glyph (R123). Its glyph row is `Drawing.row`'s. -/
structure Stamp where
  slot : Option SlotId
  deriving DecidableEq, Repr

/-- The Raster Engine (Table 26). It is IDLE when `service` is `none` (R106). -/
structure RasterEngine where
  step : RasterStep
  service : Option Claim
  /-- Claim queue, oldest first. -/
  claims : List Claim
  /-- Code buffer. -/
  codes : List Half
  /-- Number k of the code being looked up or stamped (R121). -/
  codeIndex : Nat
  stamp : Option Stamp
  missing : Nat
  metrics : FaceMetrics
  drawing : Option Drawing
  /-- The code-list read in flight (R122). -/
  codeRead : Option ReadSpan
  /-- Code-list reads whose TEXT was abandoned; they end without effect (R128). -/
  lostReads : List ReadSpan
  /-- Set while an abandoned operation finishes the row it has begun (R128, step 2). -/
  finishing : Bool
  deriving DecidableEq, Repr

/-- The Raster Engine after reset (Table 26). -/
def RasterEngine.idle : RasterEngine :=
  ⟨.none, Option.none, [], [], 0, Option.none, 0, ⟨0, 0, 0⟩, Option.none, Option.none, [], false⟩

/-! ## Intake Unit (chapter 7) -/

/-- Ring states (Table 32). -/
inductive RingState where
  | unused | active | stopping | stopped | faulted
  deriving DecidableEq, Repr

/-- Ring phases (R133). -/
inductive Phase where
  | idle | fetching | serving | reporting
  deriving DecidableEq, Repr

/-- The entry in service of a ring (Table 31). -/
structure EntryInService where
  index : Nat
  kind : Kind
  tag : Half
  cont : Bool
  report : Bool
  position : Nat
  deriving DecidableEq, Repr

/-- An abandon walk that goes on (R151, R152): the failing entry, its status and details, skipped count. -/
structure Walk where
  index : Nat
  kind : Byte
  tag : Half
  position : Nat
  status : Status
  detailA : Half
  detailB : Half
  skipped : Nat
  deriving DecidableEq, Repr

/-- The handling that a ring report interrupts (R156, step 3). -/
inductive AfterReport where
  | continueGroup | endGroup | flushed
  deriving DecidableEq, Repr

/-- A ring report waiting for the Report Unit (Table 33). -/
structure RingReport where
  index : Nat
  kind : Byte
  status : Status
  tag : Half
  position : Nat
  skipped : Nat
  openGroup : Bool
  detailA : Half
  detailB : Half
  after : AfterReport
  deriving DecidableEq, Repr

/-- A ring status word write: its address and the word it carries (R157, Table 56). -/
structure StatusTransfer where
  addr : Nat
  word : Word
  deriving DecidableEq, Repr

/-- The status write field of a ring (Table 31), with the write in flight. -/
inductive StatusWrite where
  | none
  | inFlight (write : StatusTransfer)
  | inFlightAndDue (write : StatusTransfer)
  deriving DecidableEq, Repr

/-- A ring record (Table 31). -/
structure Ring where
  base : Word
  size : Nat
  cls : RingClass
  statusAddr : Word
  post : Nat
  head : Nat
  done : Nat
  state : RingState
  phase : Phase
  service : Option EntryInService
  position : Nat
  skip : Bool
  walk : Option Walk
  reportDue : Option RingReport
  faultMark : Bool
  statusWrite : StatusWrite
  deriving DecidableEq, Repr

/-- A ring record after reset (Table 31, last column). -/
def Ring.unused : Ring :=
  ⟨0, 0, .normal, 0, 0, 0, 0, .unused, .idle, Option.none, 0, false, Option.none, Option.none, false, .none⟩

/-- The fetch in flight (R129, R142): the ring whose entry is being read, and the read's address. -/
structure EntryFetch where
  ring : RingId
  addr : Nat
  deriving DecidableEq, Repr

/-- The Intake Unit (R129). -/
structure IntakeUnit where
  rings : Vector Ring 4
  fetch : Option EntryFetch
  lastServed : RingId
  deriving DecidableEq, Repr

/-! ## Report Unit (chapter 8) -/

/-- The source of a report entry (Table 36). -/
inductive Source where
  | ring (n : RingId)
  | lane (n : LaneId)
  deriving DecidableEq, Repr

/-- A report entry (Table 36). -/
structure ReportEntry where
  lap : Bool
  source : Source
  openGroup : Bool
  status : Status
  tag : Half
  index : Nat
  kind : Byte
  position : Nat
  skipped : Nat
  detailA : Half
  detailB : Half
  frame : Half
  deriving DecidableEq, Repr

/-- The turn of the buffer arbiter (R165). -/
inductive Turn where
  | ring | lane
  deriving DecidableEq, Repr

/-- The Report Unit (Table 38). The lane class is the lanes that hold a pending event record. -/
structure ReportUnit where
  base : Word
  size : Nat
  writeIndex : Nat
  releaseIndex : Nat
  lap : Bool
  buffer : List ReportEntry
  write : Option ReportEntry
  ringClass : List RingId
  turn : Turn
  deriving DecidableEq, Repr

/-- The Report Unit after reset (Table 38, last column). -/
def ReportUnit.reset : ReportUnit := ⟨0, 0, 0, 0, true, [], Option.none, [], .ring⟩

/-! ## Sync Table (chapter 9) -/

/-- A waiter record (Table 42); `countdown` is `none` for NONE. -/
structure Waiter where
  ring : RingId
  counter : CounterId
  value : Word
  countdown : Option Nat
  deriving DecidableEq, Repr

/-- A frame-wait record (Table 42). -/
structure FrameWait where
  ring : RingId
  countdown : Nat
  deriving DecidableEq, Repr

/-- The Sync Table (Table 41). -/
structure SyncTable where
  counters : Vector Word 16
  waiters : List Waiter
  frameWaits : List FrameWait
  deriving DecidableEq, Repr

/-- The Sync Table after reset (Table 41, last column). -/
def SyncTable.reset : SyncTable := ⟨Vector.replicate 16 0, [], []⟩

/-! ## Presentation Unit (chapter 4) -/

/-- State of the Presentation Unit (R72). -/
inductive PresentationState where
  | off | running
  deriving DecidableEq, Repr

/-- A background (R78). -/
inductive Background where
  | blank (colour : Byte)
  | view (surface : SurfaceId) (x : Nat) (y : Nat)
  deriving DecidableEq, Repr

/-- The pending background; `ring` is the ring of the PRESENT that set it, absent once abandoned (R87). -/
structure PendingBackground where
  background : Background
  ring : Option RingId
  deriving DecidableEq, Repr

/-- Phase of a blink class (R67). -/
inductive BlinkPhase where
  | on | off
  deriving DecidableEq, Repr

/-- A blink class (R67). -/
structure BlinkClass where
  onFrames : Nat
  offFrames : Nat
  phase : BlinkPhase
  countdown : Nat
  deriving DecidableEq, Repr

/-- The Presentation Unit (Table 20). -/
structure PresentationUnit where
  state : PresentationState
  panelWidth : Nat
  panelHeight : Nat
  framePeriod : Nat
  frameCounter : Word
  front : Background
  pending : Option PendingBackground
  /-- Present queue, oldest first. -/
  queue : List RingEntry
  blink : Vector BlinkClass 3
  deriving DecidableEq, Repr

/-- The Presentation Unit after reset (Table 20, last column; R67 for the blink classes). -/
def PresentationUnit.reset : PresentationUnit :=
  ⟨.off, 0, 0, 0, 0, .blank 0, Option.none, [], Vector.replicate 3 ⟨0, 0, .on, 0⟩⟩

/-- Where the background pixels of the frame being shown come from (R84). -/
inductive ShownBackground where
  | blank (colour : Byte)
  | pixels (base : Nat) (pitch : Nat) (x : Nat) (y : Nat)
  deriving DecidableEq, Repr

/-- The frame being shown (R83): what the frame-start snapshot took. The background pixels themselves are
read from frame memory while the frame goes out (R86). -/
structure Frame where
  background : ShownBackground
  lanes : Vector Lane 8
  faces : Vector Face 8
  bitmaps : Vector Bitmap 384
  phases : Vector BlinkPhase 3
  deriving DecidableEq, Repr

/-! ## Host Port (chapters 8, 10 and 11) -/

/-- Part states (Table 45). -/
inductive PartState where
  | idle | loading | running | halted | resetting
  deriving DecidableEq, Repr

/-- Fault codes (Table 45). -/
inductive FaultCode where
  | none | setupInvalid | setupBus | reportBus | statusBus
  deriving DecidableEq, Repr

/-- Reset causes (Table 45). -/
inductive ResetCause where
  | powerOn | soft
  deriving DecidableEq, Repr

/-- Load origins (Table 45). -/
inductive LoadOrigin where
  | none | idle | halted
  deriving DecidableEq, Repr

/-- The setup read in flight (R193); a soft reset discards its data (R199). -/
structure SetupRead where
  addr : Nat
  discarded : Bool
  deriving DecidableEq, Repr

/-- The part control state (Table 45), the event and frame registers (R171 to R173) and the setup read. -/
structure HostPort where
  part : PartState
  fault : FaultCode
  faultDetail : Nat
  cause : ResetCause
  setupAddr : Word
  origin : LoadOrigin
  evt : BitVec 4
  evten : BitVec 4
  fcnt : Word
  setupRead : Option SetupRead
  /-- What a setup read that has ended returned, until the load ends (R193). -/
  setupData : Option ReadEnd
  deriving DecidableEq, Repr

/-- The Host Port after power-on reset (R202) or soft reset (R200). -/
def HostPort.reset (cause : ResetCause) : HostPort :=
  ⟨.idle, .none, 0, cause, 0, .none, 0, 0, 0, Option.none, Option.none⟩

/-! ## What one block has sent and another has not yet taken -/

/-- The announcement of a frame start on its way to the Lane Unit: the blink phases of R77, and the
background of the frame that begins (R83). -/
structure FrameNotice where
  phases : Vector BlinkPhase 3
  background : ShownBackground
  deriving DecidableEq, Repr

/-- The seven blocks to which a halt or a reset is announced (R197, R199). -/
structure HaltNotices where
  intake : Bool
  report : Bool
  glyph : Bool
  raster : Bool
  lane : Bool
  sync : Bool
  presentation : Bool
  deriving DecidableEq, Repr

/-- No announcement is waiting. -/
def HaltNotices.none : HaltNotices := ⟨false, false, false, false, false, false, false⟩

/-- The announcement waits at every block. -/
def HaltNotices.all : HaltNotices := ⟨true, true, true, true, true, true, true⟩

/-- Messages between blocks. The manual makes the taking of each of them a happening of its own. -/
structure Transit where
  /-- The entry handed over to its owner and not yet taken (R146). -/
  handover : Vector (Option WorkEntry) 4
  /-- The owner's answer not yet taken by the ring (R146, R148). -/
  answers : Vector (Option Answer) 4
  /-- The rings whose answer waits and came from the Glyph Table, oldest first (R5). -/
  glyphAnswers : List RingId
  /-- The ring's report has been accepted and the ring has not yet taken this (R163). -/
  accepted : Vector Bool 4
  /-- Cancel requests to the Sync Table and to the Presentation Unit (R137). -/
  syncCancel : Vector Bool 4
  presentCancel : Vector Bool 4
  /-- Frame starts announced and not yet taken (R77). -/
  laneFrames : List FrameNotice
  syncFrames : Nat
  hostFrames : List Word
  /-- Lane additions sent and not yet taken (R181). -/
  laneAdditions : List CounterId
  /-- Fatal faults on their way to the Host Port (R197). -/
  faults : List FatalFault
  /-- Halt and reset announcements not yet taken (R197, R199). -/
  halts : HaltNotices
  deriving DecidableEq, Repr

/-- Nothing is on its way. -/
def Transit.none : Transit :=
  ⟨Vector.replicate 4 Option.none, Vector.replicate 4 Option.none, [], Vector.replicate 4 false,
   Vector.replicate 4 false, Vector.replicate 4 false, [], 0, [], [], [], HaltNotices.none⟩

/-! ## Frame memory and the whole part -/

/-- Frame memory, LOCAL addresses 00000H to FFFFFH (R89), in canonical form: addresses strictly rising, and
no byte listed that an unlisted address reads as (`Memory.wf`). -/
structure Memory where
  cells : List Host.Cell
  deriving DecidableEq, Repr

/-- The Glyph Table after reset (R28). -/
def GlyphTable.reset : GlyphTable :=
  ⟨Vector.replicate 8 Face.none, Vector.replicate 384 Slot.none, [], [], Option.none, Option.none,
   Option.none, [], Option.none, []⟩

/-- The Lane Unit after reset (R52). -/
def LaneUnit.reset : LaneUnit := ⟨Vector.replicate 8 Lane.none, [], Option.none, [], []⟩

/-- The Intake Unit after reset (R129). -/
def IntakeUnit.reset : IntakeUnit := ⟨Vector.replicate 4 Ring.unused, Option.none, 3⟩

/-- Why a step stops with a fault. -/
inductive Fault where
  /-- Raised by RASTER_TRANSFER_END when the LOCAL transfer that ends lies outside frame memory, an address
  the manual says does not exist (R89). Safe: R94 and R101 keep every transfer of a reachable state
  inside. -/
  | outsideFrameMemory (addr : Nat)
  deriving DecidableEq, Repr

/-- Why a step refuses a command. -/
inductive Refusal where
  /-- Raised by `exec` for a command that has no meaning yet. Safe: the step stops. No command is refused so
  in this model. -/
  | notModelled (mnemonic : String)
  deriving DecidableEq, Repr

/-- The whole part, the frame it shows, and the commands waiting for it, first in, first out. -/
structure State where
  host : HostPort
  intake : IntakeUnit
  report : ReportUnit
  sync : SyncTable
  glyph : GlyphTable
  surfaces : Vector Surface 16
  raster : RasterEngine
  lane : LaneUnit
  presentation : PresentationUnit
  /-- The frame being sent to the panel; `none` while the panel is blanked (R89). -/
  frame : Option Frame
  frameMemory : Memory
  transit : Transit
  /-- The queue of waiting commands (the model's own). -/
  pending : List Instr
  deriving DecidableEq, Repr

/-- The part right after power-on reset (R202), with frame memory as nothing has written it. -/
def State.reset : State where
  host := HostPort.reset .powerOn
  intake := IntakeUnit.reset
  report := ReportUnit.reset
  sync := SyncTable.reset
  glyph := GlyphTable.reset
  surfaces := Vector.replicate 16 Surface.none
  raster := RasterEngine.idle
  lane := LaneUnit.reset
  presentation := PresentationUnit.reset
  frame := none
  frameMemory := ⟨[]⟩
  transit := Transit.none
  pending := []

end Sys2Proof.Machine
end

