-- ==== Sys2Proof/Machine/Ops.lean ====
section
/-! DEFINITION. The named operations over the state: replacing a block, one record of a block, a byte of
frame memory; the index arithmetic of section 3.4; the messages between blocks. -/

namespace Sys2Proof.Machine

/-! ## Tables of records -/

/-- Replaces record `i` of a table. -/
def update {α : Type} {n : Nat} (v : Vector α n) (i : Fin n) (x : α) : Vector α n := v.set i.1 x i.2

/-- Applies `f` to every record of a table. -/
def mapTable {α β : Type} {n : Nat} (f : α → β) (v : Vector α n) : Vector β n :=
  ⟨⟨v.toList.map f⟩, by simp⟩

/-- The number, counted from `k`, of the first record that satisfies `p`. -/
def findFrom {α : Type} (p : α → Bool) : List α → Nat → Option Nat
  | [], _ => none
  | x :: xs, k => if p x then some k else findFrom p xs (k + 1)

/-- The lowest-numbered record of a table that satisfies `p`. -/
def lowest {α : Type} {n : Nat} (p : α → Bool) (v : Vector α n) : Option (Fin n) :=
  match findFrom p v.toList 0 with
  | some k => if h : k < n then some ⟨k, h⟩ else none
  | none => none

/-- A number read from a field as a record number, where it is one (R204). -/
def recordNumber (n k : Nat) : Option (Fin n) := if h : k < n then some ⟨k, h⟩ else none

/-! ## Ring indexes (section 3.4) -/

/-- The forward distance from index `a` to index `b` of a ring of `size` entries. -/
def forward (size a b : Nat) : Nat := (((b : Int) - (a : Int)) % (size : Int)).toNat

/-- The index past `i`. -/
def indexPast (size i : Nat) : Nat := (i + 1) % size

/-! ## Replacing one block of the part -/

def State.withHost (s : State) (v : HostPort) : State := { s with host := v }
def State.withIntake (s : State) (v : IntakeUnit) : State := { s with intake := v }
def State.withReport (s : State) (v : ReportUnit) : State := { s with report := v }
def State.withSync (s : State) (v : SyncTable) : State := { s with sync := v }
def State.withGlyph (s : State) (v : GlyphTable) : State := { s with glyph := v }
def State.withSurfaces (s : State) (v : Vector Surface 16) : State := { s with surfaces := v }
def State.withRaster (s : State) (v : RasterEngine) : State := { s with raster := v }
def State.withLane (s : State) (v : LaneUnit) : State := { s with lane := v }
def State.withPresentation (s : State) (v : PresentationUnit) : State := { s with presentation := v }
def State.withFrame (s : State) (v : Option Frame) : State := { s with frame := v }
def State.withFrameMemory (s : State) (v : Memory) : State := { s with frameMemory := v }
def State.withTransit (s : State) (v : Transit) : State := { s with transit := v }
def State.withPending (s : State) (v : List Instr) : State := { s with pending := v }

/-! ## Records of a block -/

/-- Ring record `r` (R129). -/
def State.ring (s : State) (r : RingId) : Ring := s.intake.rings[r]

/-- Changes ring record `r` by `f`. -/
def State.modRing (s : State) (r : RingId) (f : Ring → Ring) : State :=
  s.withIntake { s.intake with rings := update s.intake.rings r (f (s.ring r)) }

/-- Lane record `l` (R30). -/
def State.laneAt (s : State) (l : LaneId) : Lane := s.lane.lanes[l]

/-- Changes lane record `l` by `f`. -/
def State.modLane (s : State) (l : LaneId) (f : Lane → Lane) : State :=
  s.withLane { s.lane with lanes := update s.lane.lanes l (f (s.laneAt l)) }

/-- The part state (R190). -/
def State.part (s : State) : PartState := s.host.part

/-- The part is RUNNING (R190). -/
def State.isRunning (s : State) : Bool := s.part == .running

/-! ## Frame memory (R89) -/

/-- Reading a byte of a list of cells. -/
def readCells (a : Nat) : List Host.Cell → Byte
  | [] => Config.frameMemoryFill
  | (k, v) :: rest => if k = a then v else readCells a rest

/-- Writing a byte into a list of cells, keeping its canonical form. -/
def writeCells (a : Nat) (b : Byte) : List Host.Cell → List Host.Cell
  | [] => if b = Config.frameMemoryFill then [] else [(a, b)]
  | (k, v) :: rest =>
    if a < k then
      if b = Config.frameMemoryFill then (k, v) :: rest else (a, b) :: (k, v) :: rest
    else if a = k then
      if b = Config.frameMemoryFill then rest else (a, b) :: rest
    else (k, v) :: writeCells a b rest

/-- The byte of frame memory at LOCAL address `a`. -/
def Memory.read (m : Memory) (a : Nat) : Byte := readCells a m.cells

/-- Frame memory with `b` stored at LOCAL address `a`. -/
def Memory.write (m : Memory) (a : Nat) (b : Byte) : Memory := ⟨writeCells a b m.cells⟩

/-- The canonical form of a list of cells. -/
def cellsCanonical : List Host.Cell → Bool
  | [] => true
  | [(_, v)] => v != Config.frameMemoryFill
  | (k, v) :: (k', v') :: rest =>
    k < k' && v != Config.frameMemoryFill && cellsCanonical ((k', v') :: rest)

/-- Frame memory is in canonical form: equal contents are equal data. -/
def Memory.wf (m : Memory) : Bool := cellsCanonical m.cells

/-! ## Messages between blocks -/

/-- The entry that `answer` belongs to is still in service (R158: an answer given after the Intake Unit has
abandoned the entry is not taken). -/
def Ring.awaitsAnswer (k : Ring) : Bool := k.service.isSome && k.phase == .serving

/-- An owner answers the entry in service of ring `r` (R146). -/
def State.giveAnswer (s : State) (r : RingId) (a : Answer) : State :=
  if (s.ring r).awaitsAnswer then
    s.withTransit { s.transit with answers := update s.transit.answers r (some a) }
  else s

/-- The Glyph Table answers the entry in service of ring `r`: its answers are taken in the order in which its
entries end (R5). -/
def State.giveGlyphAnswer (s : State) (r : RingId) (a : Answer) : State :=
  if (s.ring r).awaitsAnswer then
    s.withTransit { s.transit with
      answers := update s.transit.answers r (some a), glyphAnswers := s.transit.glyphAnswers ++ [r] }
  else s

/-- The entry handed over for ring `r` and not yet taken by its owner. -/
def State.handedOver (s : State) (r : RingId) : Option WorkEntry := s.transit.handover[r]

/-- The owner has taken the entry handed over for ring `r`. -/
def State.clearHandover (s : State) (r : RingId) : State :=
  s.withTransit { s.transit with handover := update s.transit.handover r none }

/-- A count as a 16-bit detail; a count that does not fit is a free value (R23, log entry 2). -/
def toDetail (n : Nat) : Half :=
  if n < 65536 then BitVec.ofNat 16 n else Config.detailOverflow n

/-- Completed, with detail A and detail B 0. -/
def Answer.done : Answer := ⟨.ok, 0, 0⟩

/-- Failed with a status, detail A and detail B 0. -/
def Answer.failed (status : Status) : Answer := ⟨status, 0, 0⟩

/-- Completed partial. -/
def Answer.partially (a b : Nat) : Answer := ⟨.partially, toDetail a, toDetail b⟩

end Sys2Proof.Machine
end

