-- ==== Sys2Proof/Machine/Operands.lean ====
section
/-! DEFINITION. The operand forms: the fields of work entries (Tables 53 to 55), of the setup block (Table 52)
and of the records the PX24 reads (Table 59, R206), and the records it writes (Tables 56 to 58). -/

namespace Sys2Proof.Machine

/-! ## Little-endian fields (section 3.2) -/

/-- The byte at offset `k`. A bus read returns every byte it asks for; where a command carries fewer, the
rest read as 00H (log entry 11). -/
def byteAt (l : List Byte) (k : Nat) : Byte := l.getD k 0

/-- The 16-bit field at offset `k`. -/
def halfAt (l : List Byte) (k : Nat) : Half := byteAt l (k + 1) ++ byteAt l k

/-- The 32-bit field at offset `k`. -/
def wordAt (l : List Byte) (k : Nat) : Word :=
  byteAt l (k + 3) ++ byteAt l (k + 2) ++ byteAt l (k + 1) ++ byteAt l k

/-- The `n` bytes of a number, least significant first. -/
def littleEndian (n : Nat) (v : Nat) : List Byte :=
  match n with
  | 0 => []
  | k + 1 => BitVec.ofNat 8 v :: littleEndian k (v / 256)

/-- The first `n` 16-bit units of a read: the codes of a code list, the rows of a glyph (R206). -/
def halvesOf (n : Nat) (l : List Byte) : List Half := (List.range n).map fun i => halfAt l (2 * i)

namespace WorkEntry

def byte (e : WorkEntry) (k : Nat) : Byte := byteAt e.bytes k
def u8 (e : WorkEntry) (k : Nat) : Nat := (e.byte k).toNat
def half (e : WorkEntry) (k : Nat) : Half := halfAt e.bytes k
def u16 (e : WorkEntry) (k : Nat) : Nat := (e.half k).toNat
/-- A signed 16-bit two's complement coordinate (R204). -/
def s16 (e : WorkEntry) (k : Nat) : Int := (e.half k).toInt
def word (e : WorkEntry) (k : Nat) : Word := wordAt e.bytes k

end WorkEntry

/-! ## The common header (Table 53) -/

/-- Kind codes (Table 54). -/
def Kind.code : Kind → Byte
  | .nop => 0x01
  | .faceLoad => 0x10 | .faceDrop => 0x11 | .glyphPreload => 0x12 | .glyphDefine => 0x13
  | .glyphRelease => 0x14
  | .surfaceSet => 0x20 | .clipSet => 0x21
  | .fill => 0x30 | .copy => 0x31 | .expand => 0x32 | .text => 0x33
  | .laneSet => 0x40 | .laneText => 0x41 | .laneView => 0x42 | .laneMotion => 0x43
  | .present => 0x50
  | .signal => 0x60 | .wait => 0x61 | .waitFrame => 0x62

/-- Every kind, in the order of Table 54. -/
def Kind.all : List Kind :=
  [.nop, .faceLoad, .faceDrop, .glyphPreload, .glyphDefine, .glyphRelease, .surfaceSet, .clipSet,
   .fill, .copy, .expand, .text, .laneSet, .laneText, .laneView, .laneMotion, .present,
   .signal, .wait, .waitFrame]

/-- The kind a code names; `none` for an unknown kind (R143). -/
def Kind.ofCode (c : Byte) : Option Kind := Kind.all.find? fun k => k.code == c

/-- The kind of an entry, `none` where unknown. -/
def WorkEntry.kind (e : WorkEntry) : Option Kind := Kind.ofCode (e.byte 0)

/-- The CONT flag (Table 53). -/
def WorkEntry.cont (e : WorkEntry) : Bool := (e.byte 1).getLsbD 0

/-- The REPORT flag (Table 53). -/
def WorkEntry.report (e : WorkEntry) : Bool := (e.byte 1).getLsbD 1

/-- The tag (Table 53). -/
def WorkEntry.tag (e : WorkEntry) : Half := e.half 2

/-! ## Encoded operand values (Table 55) -/

/-- The mixes of Table 27. -/
inductive Mix where
  | replace | and | or | xor | invert | addSat
  deriving DecidableEq, Repr

def Mix.ofCode : Nat → Option Mix
  | 0 => some .replace | 1 => some .and | 2 => some .or | 3 => some .xor | 4 => some .invert
  | 5 => some .addSat | _ => none

def Space.ofCode : Nat → Option Space
  | 0 => some .loc | 1 => some .host | _ => none

def MotionMode.ofCode : Nat → Option MotionMode
  | 0 => some .fixed | 1 => some .marquee | 2 => some .step | _ => none

def Direction.ofCode : Nat → Option Direction
  | 0 => some .leftward | 1 => some .rightward | _ => none

def EventSetting.ofCode : Nat → Option EventSetting
  | 0 => some .none | 1 => some .done | 2 => some .eachPass | _ => none

/-- The signal counter field: a counter 0..15, or 0FFH for none; any other value has no meaning. -/
def signalOfCode (n : Nat) : Option (Option CounterId) :=
  if h : n < 16 then some (some ⟨n, h⟩) else if n = 0xFF then some none else none

/-- WRAP, KEYED and the raster paper clear byte: 0 clear, 1 set. -/
def flagOfCode : Nat → Option Bool
  | 0 => some false | 1 => some true | _ => none

/-! ## Operands by kind (Table 54) -/

/-- FACE_LOAD. -/
structure FaceLoadArgs where
  face : Nat
  width : Nat
  height : Nat
  advance : Nat
  base : Word
  first : Half
  last : Half
  substitute : Half
  stride : Nat
  deriving DecidableEq, Repr

def WorkEntry.faceLoadArgs (e : WorkEntry) : FaceLoadArgs :=
  ⟨e.u8 0x04, e.u8 0x05, e.u8 0x06, e.u8 0x07, e.word 0x08, e.half 0x0C, e.half 0x0E, e.half 0x10, e.u16 0x12⟩

/-- SURFACE_SET. -/
structure SurfaceSetArgs where
  surface : Nat
  space : Option Space
  depth : Nat
  base : Word
  width : Nat
  height : Nat
  pitch : Nat
  deriving DecidableEq, Repr

def WorkEntry.surfaceSetArgs (e : WorkEntry) : SurfaceSetArgs :=
  ⟨e.u8 0x04, Space.ofCode (e.u8 0x05), e.u8 0x06, e.word 0x08, e.u16 0x0C, e.u16 0x0E, e.u16 0x10⟩

/-- CLIP_SET. -/
structure ClipSetArgs where
  surface : Nat
  x0 : Int
  y0 : Int
  x1 : Int
  y1 : Int
  deriving DecidableEq, Repr

def WorkEntry.clipSetArgs (e : WorkEntry) : ClipSetArgs :=
  ⟨e.u8 0x04, e.s16 0x08, e.s16 0x0A, e.s16 0x0C, e.s16 0x0E⟩

/-- The four raster kinds. -/
inductive RasterKind where
  | fill | copy | expand | text
  deriving DecidableEq, Repr

/-- The operands of the four raster kinds together; a field a kind does not carry is 0, and a flag it does
not carry is clear. `ink` is the FILL colour, the COPY key, or the ink. For TEXT, (dx, dy) is the pen. -/
structure RasterArgs where
  kind : RasterKind
  dst : Option SurfaceId
  src : Option SurfaceId
  mix : Option Mix
  ink : Byte
  paper : Byte
  dx : Int
  dy : Int
  w : Nat
  h : Nat
  sx : Nat
  sy : Nat
  wrap : Option Bool
  keyed : Option Bool
  paperClear : Option Bool
  face : Option FaceId
  count : Nat
  listAddr : Word
  deriving DecidableEq, Repr

def WorkEntry.fillArgs (e : WorkEntry) : RasterArgs :=
  { kind := .fill, dst := recordNumber 16 (e.u8 0x04), src := none, mix := Mix.ofCode (e.u8 0x06),
    ink := e.byte 0x07, paper := 0, dx := e.s16 0x08, dy := e.s16 0x0A, w := e.u16 0x0C, h := e.u16 0x0E,
    sx := 0, sy := 0, wrap := some false, keyed := some false, paperClear := some false,
    face := none, count := 0, listAddr := 0 }

def WorkEntry.copyArgs (e : WorkEntry) : RasterArgs :=
  { kind := .copy, dst := recordNumber 16 (e.u8 0x04), src := recordNumber 16 (e.u8 0x05),
    mix := Mix.ofCode (e.u8 0x06), ink := e.byte 0x07, paper := 0, dx := e.s16 0x08, dy := e.s16 0x0A,
    w := e.u16 0x0C, h := e.u16 0x0E, sx := e.u16 0x10, sy := e.u16 0x12,
    wrap := flagOfCode (e.u8 0x14), keyed := flagOfCode (e.u8 0x15), paperClear := some false,
    face := none, count := 0, listAddr := 0 }

def WorkEntry.expandArgs (e : WorkEntry) : RasterArgs :=
  { kind := .expand, dst := recordNumber 16 (e.u8 0x04), src := recordNumber 16 (e.u8 0x05),
    mix := Mix.ofCode (e.u8 0x06), ink := e.byte 0x07, paper := e.byte 0x16, dx := e.s16 0x08,
    dy := e.s16 0x0A, w := e.u16 0x0C, h := e.u16 0x0E, sx := e.u16 0x10, sy := e.u16 0x12,
    wrap := flagOfCode (e.u8 0x14), keyed := some false, paperClear := flagOfCode (e.u8 0x15),
    face := none, count := 0, listAddr := 0 }

def WorkEntry.textArgs (e : WorkEntry) : RasterArgs :=
  { kind := .text, dst := recordNumber 16 (e.u8 0x04), src := none, mix := Mix.ofCode (e.u8 0x06),
    ink := e.byte 0x07, paper := e.byte 0x0E, dx := e.s16 0x08, dy := e.s16 0x0A, w := 0, h := 0,
    sx := 0, sy := 0, wrap := some false, keyed := some false, paperClear := flagOfCode (e.u8 0x0F),
    face := recordNumber 8 (e.u8 0x05), count := e.u16 0x0C, listAddr := e.word 0x10 }

/-- The operands of a raster entry; an entry of another kind is read as a FILL (none is lodged as a claim). -/
def WorkEntry.rasterArgs (e : WorkEntry) : RasterArgs :=
  match e.kind with
  | some .copy => e.copyArgs
  | some .expand => e.expandArgs
  | some .text => e.textArgs
  | _ => e.fillArgs

/-- LANE_SET, field by field as read. -/
structure LaneSetArgs where
  lane : Nat
  face : Nat
  x : Nat
  y : Nat
  w : Nat
  h : Nat
  ink : Byte
  paper : Byte
  altInk : Byte
  paperClear : Bool
  verticalOffset : Nat
  mode : Option MotionMode
  direction : Option Direction
  interval : Nat
  hold : Nat
  repeats : Nat
  gap : Nat
  events : Option EventSetting
  signal : Option (Option CounterId)
  deriving DecidableEq, Repr

def WorkEntry.laneSetArgs (e : WorkEntry) : LaneSetArgs :=
  { lane := e.u8 0x04, face := e.u8 0x05, x := e.u16 0x06, y := e.u16 0x08, w := e.u16 0x0A, h := e.u16 0x0C,
    ink := e.byte 0x0E, paper := e.byte 0x0F, altInk := e.byte 0x10, paperClear := (e.byte 0x11).getLsbD 0,
    verticalOffset := e.u8 0x12, mode := MotionMode.ofCode (e.u8 0x13),
    direction := Direction.ofCode (e.u8 0x14), interval := e.u8 0x15, hold := e.u8 0x16,
    repeats := e.u8 0x17, gap := e.u16 0x18, events := EventSetting.ofCode (e.u8 0x1A),
    signal := signalOfCode (e.u8 0x1B) }

/-- PRESENT; `surface` is `none` for a value that names nothing, `some none` for NONE (R79). -/
structure PresentArgs where
  surface : Option (Option SurfaceId)
  blank : Byte
  x : Nat
  y : Nat
  deriving DecidableEq, Repr

def presentSurfaceOfCode (n : Nat) : Option (Option SurfaceId) :=
  if h : n < 16 then some (some ⟨n, h⟩) else if n = 0xFF then some none else none

def WorkEntry.presentArgs (e : WorkEntry) : PresentArgs :=
  ⟨presentSurfaceOfCode (e.u8 0x04), e.byte 0x05, e.u16 0x06, e.u16 0x08⟩

/-- The operation byte of LANE_TEXT, LANE_VIEW, LANE_MOTION and SIGNAL entries (Table 54). -/
def WorkEntry.operation (e : WorkEntry) : Nat := e.u8 0x05

/-! ## Records the PX24 reads (section 11.5) -/

/-- A lane cell record (Table 59); its slot is settled by a lookup. -/
def cellAt (l : List Byte) (i : Nat) : TextCell :=
  let attributes := byteAt l (4 * i + 2)
  { code := halfAt l (4 * i), slot := none, blink := attributes.extractLsb' 0 2,
    inverse := attributes.getLsbD 2, highlight := attributes.getLsbD 3 }

/-- The cell records of a delivery of the cell-list read, the first `most` of them. -/
def cellsOf (most : Nat) (l : List Byte) : List TextCell :=
  (List.range (min most (l.length / 4))).map (cellAt l)

/-! ## The setup block (Table 52) -/

structure RingDescriptor where
  base : Word
  statusAddr : Word
  exponent : Nat
  cls : Nat
  deriving DecidableEq, Repr

def ringDescriptorAt (block : List Byte) (n : Nat) : RingDescriptor :=
  ⟨wordAt block (n * 0x10), wordAt block (n * 0x10 + 4), (byteAt block (n * 0x10 + 8)).toNat,
   (byteAt block (n * 0x10 + 9)).toNat⟩

structure PanelFields where
  width : Nat
  height : Nat
  period : Nat
  on1 : Nat
  off1 : Nat
  on2 : Nat
  off2 : Nat
  on3 : Nat
  off3 : Nat
  deriving DecidableEq, Repr

def panelFieldsOf (block : List Byte) : PanelFields :=
  ⟨(halfAt block 0x48).toNat, (halfAt block 0x4A).toNat, (wordAt block 0x4C).toNat,
   (byteAt block 0x50).toNat, (byteAt block 0x51).toNat, (byteAt block 0x52).toNat,
   (byteAt block 0x53).toNat, (byteAt block 0x54).toNat, (byteAt block 0x55).toNat⟩

/-- Base and size exponent of the report ring (fields 18 and 17). -/
def reportBaseOf (block : List Byte) : Word := wordAt block 0x40
def reportExponentOf (block : List Byte) : Nat := (byteAt block 0x44).toNat

/-! ## Records the PX24 writes (R205) -/

/-- Ring state codes, of STAT and of the ring status word (Tables 51 and 56). -/
def RingState.code : RingState → Nat
  | .unused => 0 | .active => 1 | .stopping => 2 | .stopped => 3 | .faulted => 4

/-- The ring status word (Table 56). -/
def Ring.statusWord (k : Ring) : Word :=
  BitVec.ofNat 32 (k.done % 1024 + k.state.code * 0x10000)

/-- Status codes in the report entry (Table 58). -/
def Status.code : Status → Byte
  | .ok => 0x00 | .partially => 0x01 | .badKind => 0x02 | .badChain => 0x03 | .badOperand => 0x04
  | .notSet => 0x05 | .inUse => 0x06 | .noSlot => 0x07 | .busError => 0x08 | .waitTimeout => 0x09
  | .cancelled => 0x0A | .flushed => 0x0B | .lanePass => 0x0C | .laneDone => 0x0D

/-- Bit 1 of byte 00H of a report entry: 0 RING, 1 LANE (Table 57). -/
def Source.code : Source → Nat
  | .ring _ => 0 | .lane _ => 1

/-- Bits 6..4 of byte 00H of a report entry (Table 57). -/
def Source.number : Source → Nat
  | .ring n => n.1 | .lane n => n.1

/-- The 16 bytes of a report entry (Table 57). -/
def ReportEntry.bytes (e : ReportEntry) : List Byte :=
  [BitVec.ofNat 8 (e.lap.toNat + 2 * e.source.code + 4 * e.openGroup.toNat + 16 * e.source.number),
   e.status.code] ++
  littleEndian 2 e.tag.toNat ++ littleEndian 2 e.index ++ [e.kind, BitVec.ofNat 8 e.position] ++
  littleEndian 2 e.skipped ++ littleEndian 2 e.detailA.toNat ++ littleEndian 2 e.detailB.toNat ++
  littleEndian 2 e.frame.toNat

end Sys2Proof.Machine
end

