-- ==== Sys2Proof/Machine/Flags.lean ====
section
/-! DEFINITION. The event bits, the interrupt line, and what a read of each register returns (Table 50,
Table 51, R171, R172, R201, R203). -/

namespace Sys2Proof.Machine

/-- The event bits (Table 51). -/
inductive Event where
  | report | halt | protocol | frame
  deriving DecidableEq, Repr

/-- The bit of an event in EVT and EVTEN (Table 51). -/
def Event.bit : Event → BitVec 4
  | .report => 1 | .halt => 2 | .protocol => 4 | .frame => 8

/-- Sets an event bit (R171). -/
def State.setEvent (s : State) (e : Event) : State :=
  s.withHost { s.host with evt := s.host.evt ||| e.bit }

/-- The interrupt line is asserted while some bit is set in both EVT and EVTEN (R172). INT_N is low then. -/
def State.interruptLine (s : State) : Bool := s.host.evt &&& s.host.evten != 0

/-- Part state codes of STAT (Table 51). -/
def PartState.code : PartState → Nat
  | .idle => 0 | .loading => 1 | .running => 2 | .halted => 3 | .resetting => 4

/-- Fault codes of STAT (Table 51). -/
def FaultCode.code : FaultCode → Nat
  | .none => 0 | .setupInvalid => 1 | .setupBus => 2 | .reportBus => 3 | .statusBus => 4

/-- Reset cause bit of STAT (Table 51). -/
def ResetCause.code : ResetCause → Nat
  | .powerOn => 0 | .soft => 1

/-- STAT as a read returns it (R201, Table 51). -/
def State.statWord (s : State) : Word :=
  BitVec.ofNat 32
    (s.host.part.code + s.host.fault.code * 2 ^ 4 + s.host.faultDetail % 32 * 2 ^ 8 +
      s.host.cause.code * 2 ^ 15 + (s.ring 0).state.code * 2 ^ 16 + (s.ring 1).state.code * 2 ^ 19 +
      (s.ring 2).state.code * 2 ^ 22 + (s.ring 3).state.code * 2 ^ 25)

/-- RREL as a read returns it (R170, Table 51). -/
def State.rrelWord (s : State) : Word :=
  BitVec.ofNat 32
    (s.report.releaseIndex % 4096 + s.report.writeIndex % 4096 * 2 ^ 16 + s.report.lap.toNat * 2 ^ 31)

/-- What a 32-bit read of a register returns (Table 50); a read changes no state (R203). -/
def State.readRegister (s : State) : Register → Word
  | .ctrl => 0
  | .stat => s.statWord
  | .setup => s.host.setupAddr
  | .rcmd => 0
  | .rrel => s.rrelWord
  | .evt => s.host.evt.setWidth 32
  | .evten => s.host.evten.setWidth 32
  | .fcnt => s.host.fcnt

/-- What an 8-bit read of byte `k` of a register returns (R203). -/
def State.readRegisterByte (s : State) (reg : Register) (k : Nat) : Byte :=
  (s.readRegister reg).extractLsb' (8 * k) 8

/-- What a 16-bit read of a register returns that starts at its byte `k`, from 0 to 2: the addressed bytes (R203).
The spec gives no alignment rule for 16-bit reads; that bytes 1 and 2 are read as one half is the model's choice
(DESIGN CHOICE, log entry 36). -/
def State.readRegisterHalf (s : State) (reg : Register) (k : Nat) : Half :=
  (s.readRegister reg).extractLsb' (8 * k) 16

/-- The offset of a register in the register window (Table 50). -/
def Register.offset : Register → Nat
  | .ctrl => 0x00 | .stat => 0x04 | .setup => 0x08 | .rcmd => 0x0C | .rrel => 0x10 | .evt => 0x14
  | .evten => 0x18 | .fcnt => 0x1C

end Sys2Proof.Machine
end

