-- ==== Sys2Proof/Machine/Handover.lean ====
section
/-! DEFINITION. How an owner takes the entry that the Intake Unit handed over (R146), and how it loses it when
it takes a halt or reset announcement. -/

namespace Sys2Proof.Machine

/-- Takes a handed-over entry of one kind whose operation byte passes `op`, and serves it by `serve`; where
none waits, the happening does not arise (log entry 3). Entries that rings hand to one owner wait in no order, and
any of them may be taken first (DESIGN CHOICE, log entry 44). An entry of the Glyph Table, the Lane Unit or the
Surface Table handed over before a fatal fault and taken after it, before the halt's announcement, is taken as in
RUNNING (DESIGN CHOICE, log entry 33). -/
def State.takeEntry (s : State) (r : RingId) (kind : Kind) (op : Nat → Bool)
    (serve : WorkEntry → State → State) : State :=
  match s.handedOver r with
  | some e => if e.kind = some kind ∧ op e.operation then serve e (s.clearHandover r) else s
  | none => s

/-- Takes an entry of an owner that entries reach only while the part is RUNNING: the Raster Engine (R128), the
Presentation Unit (R87, R88) and the Sync Table (R183). In another part state the entry stays where it is until an
announcement drops it (log entry 38). -/
def State.takeRunningEntry (s : State) (r : RingId) (kind : Kind) (op : Nat → Bool)
    (serve : WorkEntry → State → State) : State :=
  if s.isRunning then s.takeEntry r kind op serve else s

/-- Drops the handed-over entries of the kinds that pass `owned`: an owner that takes a halt or reset
announcement receives none of them afterwards (R53, R128; log entry 7). -/
def Transit.dropHandovers (t : Transit) (owned : Kind → Bool) : Transit :=
  { t with
    handover := mapTable (fun h => h.filter fun e => !((e.kind.map owned).getD false)) t.handover }

end Sys2Proof.Machine
end

