-- ==== Sys2Proof/Machine/Reports.lean ====
section
/-! DEFINITION. The Report Unit (chapter 8): taking reports into the buffer, the buffer arbiter, writing and
releasing the report ring, and its commands. -/

namespace Sys2Proof.Machine

/-! ## Taking a report (R162) -/

/-- The lap bit of the index the next report taken will be written to (R162). -/
def ReportUnit.nextLap (u : ReportUnit) : Bool :=
  let ahead := u.buffer.length + (if u.write.isSome then 1 else 0)
  if u.writeIndex + ahead < u.size then u.lap else !u.lap

/-- The buffer has room (R162). -/
def ReportUnit.hasRoom (u : ReportUnit) : Bool := u.buffer.length < Config.reportBufferSize

/-- The frame number a report taken now carries (R162). -/
def State.frameNumber (s : State) : Half := s.presentation.frameCounter.extractLsb' 0 16

/-- Takes a report into the buffer, completing its lap bit and frame number (R162). -/
def State.takeReport (s : State) (e : ReportEntry) : State :=
  s.withReport { s.report with
    buffer := s.report.buffer ++ [{ e with lap := s.report.nextLap, frame := s.frameNumber }] }

/-- The entry of a ring report (R155, R159). -/
def RingReport.entry (rep : RingReport) (r : RingId) : ReportEntry :=
  { lap := false, source := .ring r, openGroup := rep.openGroup, status := rep.status, tag := rep.tag,
    index := rep.index, kind := rep.kind, position := rep.position, skipped := rep.skipped,
    detailA := rep.detailA, detailB := rep.detailB, frame := 0 }

/-- The entry of a lane report (R62, R166): `passes` is the number of passes it stands for. -/
def laneReportEntry (l : LaneId) (done : Bool) (passes passCount : Nat) : ReportEntry :=
  { lap := false, source := .lane l, openGroup := false,
    status := if done then .laneDone else .lanePass, tag := 0, index := 0, kind := 0, position := 0,
    skipped := 0, detailA := BitVec.ofNat 16 passes, detailB := BitVec.ofNat 16 passCount, frame := 0 }

/-! ## Writing the report ring (R167) -/

/-- The number of entries written and not released (Table 38, note 3). -/
def ReportUnit.unreleased (u : ReportUnit) : Nat := forward u.size u.releaseIndex u.writeIndex

/-- Starts a report write when R167 allows one. Between a report write's bus error and the Host Port's taking of
the fault the part is RUNNING, and the next entry's write may start at the same index with the lap bit it was
given when taken (DESIGN CHOICE, log entry 35). -/
def State.startReportWrite (s : State) : State :=
  match s.report.buffer with
  | [] => s
  | e :: rest =>
    if s.isRunning && s.report.write.isNone && decide (s.report.unreleased + 1 < s.report.size) then
      s.withReport { s.report with buffer := rest, write := some e }
    else s

/-- The address a report write goes to (R167). -/
def ReportUnit.writeAddr (u : ReportUnit) : Nat := u.base.toNat + u.writeIndex * 16

/-! ## The buffer arbiter (R165) -/

/-- The head of the lane class: the lowest-numbered lane holding a pending event record (R165). -/
def State.laneClassHead (s : State) : Option LaneId := lowest (fun k => k.record.isSome) s.lane.lanes

/-- Takes the report of the ring at the head of the ring class and tells the Intake Unit (R163). -/
def State.grantRing (s : State) (r : RingId) : State :=
  let s' := s.withReport { s.report with ringClass := s.report.ringClass.tail, turn := .lane }
  match (s.ring r).reportDue with
  | some rep =>
    (s'.takeReport (rep.entry r)).withTransit
      { s'.transit with accepted := update s'.transit.accepted r true }
  | none => s'

/-- Takes the pending event record of a lane (R166). -/
def State.grantLane (s : State) (l : LaneId) : State :=
  let s' := s.withReport { s.report with turn := .ring }
  match (s.laneAt l).record with
  | some rec =>
    (s'.takeReport (laneReportEntry l rec.done rec.passes (s.laneAt l).passCount)).modLane l
      fun k => { k with record := none }
  | none => s'

/-- One grant of the arbiter, where R165 gives one. -/
def State.grant (s : State) : Option State :=
  if s.isRunning && s.report.hasRoom then
    match s.report.ringClass.head?, s.laneClassHead with
    | none, none => none
    | some r, none => some (s.grantRing r)
    | none, some l => some (s.grantLane l)
    | some r, some l =>
      match s.report.turn with
      | .ring => some (s.grantRing r)
      | .lane => some (s.grantLane l)
  else none

/-- Grants one report at a time, starting a write after each taking, at most `n` times. -/
def State.grants : Nat → State → State
  | 0, s => s
  | n + 1, s =>
    match s.grant with
    | some s' => State.grants n s'.startReportWrite
    | none => s

/-- Starts a write where R167 allows one, and grants until the buffer is full or both classes are empty
(R165, R167). Each grant empties one place of the two classes, so their size bounds the grants. -/
def State.serveReports (s : State) : State :=
  State.grants (s.report.ringClass.length + 8) s.startReportWrite

/-- A ring's report becomes due: the ring joins the ring class and enters REPORTING (R156, R163), also where
the Report Unit has taken a halt's announcement and the Intake Unit has not (DESIGN CHOICE, log entry 39). -/
def State.offerRingReport (s : State) (r : RingId) (rep : RingReport) : State :=
  let s' := s.modRing r fun k => { k with reportDue := some rep, phase := .reporting }
  (s'.withReport { s'.report with ringClass := s'.report.ringClass ++ [r] }).serveReports

/-- The Report Unit takes a lane event at once (R164). -/
def State.takesLaneEvent (s : State) : Bool :=
  s.isRunning && s.report.hasRoom && s.report.ringClass.isEmpty && s.laneClassHead.isNone

/-- A lane offers an event of one pass; a refused offer creates its pending event record (R164, R62). -/
def State.offerLaneEvent (s : State) (l : LaneId) (done : Bool) : State :=
  if s.takesLaneEvent then
    let s' := s.takeReport (laneReportEntry l done 1 (s.laneAt l).passCount)
    (s'.withReport { s'.report with turn := .ring }).serveReports
  else
    (s.modLane l fun k => { k with record := some ⟨1, done⟩ }).serveReports

/-! ## Commands -/

/-- A report write that ended without error (R168; R175 while the part is not RUNNING). -/
def State.reportWritten (s : State) : State :=
  let u := s.report
  let next := indexPast u.size u.writeIndex
  let s' := (s.withReport { u with
    writeIndex := next, lap := if next = 0 then !u.lap else u.lap, write := none }).setEvent .report
  s'.serveReports

/-- A report write that ended with a bus error (R169): a fatal fault while the part is RUNNING (R197). The buffer
is kept until the halt's announcement, and a write may start before it (DESIGN CHOICE, log entry 35). -/
def State.reportWriteFailed (s : State) : State :=
  let s' := s.withReport { s.report with write := none }
  if s.isRunning then s'.withTransit { s'.transit with faults := s'.transit.faults ++ [.reportBus] } else s'

/-- REPORT_WRITE_END (R168, R169). -/
def execReportWriteEnd (busError : Bool) (s : State) : Host.Outcome State Fault Refusal :=
  .next <|
    if s.report.write.isNone then s
    else if busError then s.reportWriteFailed
    else s.reportWritten

/-- A release index that R170 accepts. -/
def State.releaseAccepted (s : State) (index : Nat) : Bool :=
  s.isRunning && decide (index < s.report.size) &&
    decide (forward s.report.size s.report.releaseIndex index ≤ s.report.unreleased)

/-- A 32-bit write of RREL (R170); ignored while the part is RESETTING. -/
def State.writeRrel (s : State) (value : Word) : State :=
  let index := (value.extractLsb' 0 16).toNat
  if s.part = .resetting then s
  else if s.releaseAccepted index then
    (s.withReport { s.report with releaseIndex := index }).serveReports
  else s.setEvent .protocol

/-- RREL_WRITE (R170). -/
def execRrelWrite (value : Word) (s : State) : Host.Outcome State Fault Refusal :=
  .next (s.writeRrel value)

/-- What the Report Unit does on a halt or reset announcement (R175, R176). -/
def State.haltReport (s : State) : State :=
  s.withReport { s.report with buffer := [], ringClass := [] }

/-- REPORT_UNIT_HALT_ANNOUNCEMENT (R175). -/
def execReportUnitHaltAnnouncement (s : State) : Host.Outcome State Fault Refusal :=
  .next <|
    if s.transit.halts.report then
      s.haltReport.withTransit
        { s.transit with halts := { s.transit.halts with report := false } }
    else s

end Sys2Proof.Machine
end

