-- ==== Sys2Proof/WellFormed.lean ====
section
/-! DEFINITION. Which commands are well formed: a register write whose value spells its own row (Table 51),
and a read that returned the number of bytes that its kind of read asks for (R193, R142, R206). -/

namespace Sys2Proof

/-- The operation field of an RCMD value, bits 7..4 (Table 51). -/
def rcmdOperation (value : Word) : BitVec 4 := value.extractLsb' 4 4

/-- A read that asks for `n` bytes and ends without error returns `n` bytes. -/
def ReadEnd.hasLength (n : Nat) : ReadEnd → Bool
  | .ok bytes => bytes.length == n
  | .busError => true

/-- A read of `size`-byte units, at most `most` of them, returns whole units. -/
def ReadEnd.hasUnits (size most : Nat) : ReadEnd → Bool
  | .ok bytes => bytes.length % size == 0 && bytes.length ≤ size * most
  | .busError => true

/-- A cell-list read delivers whole 4-byte records, at most 128 of them (R39). -/
def CellRead.wellFormed : CellRead → Bool
  | .delivers bytes | .ends bytes => bytes.length % 4 == 0 && bytes.length ≤ 512
  | .busError => true

/-- A command that a host or a bus can send. -/
def Instr.wellFormed : Instr → Bool
  | .ctrlRun value => !value.getLsbD 1
  | .ctrlReset value => value.getLsbD 1
  | .rcmdPost value => rcmdOperation value == 0 || 4 ≤ (rcmdOperation value).toNat
  | .rcmdStop value => rcmdOperation value == 1
  | .rcmdResume value => rcmdOperation value == 2
  | .rcmdFlush value => rcmdOperation value == 3
  | .setupReadEnd read => read.hasLength 128
  | .entryFetchEnd read => read.hasLength 32
  | .glyphFillEnd read | .defineReadEnd read => read.hasUnits 2 32
  | .codeListReadEnd read => read.hasUnits 2 256
  | .rasterTransferEnd read => read.hasUnits 1 1
  | .cellListReadEnd _ read => read.wellFormed
  | .powerOnReset | .setupWrite _ | .rrelWrite _ | .evtWrite _ | .evtenWrite _
  | .ignoredRegisterWrite _ _ _ | .setupLoadEnd | .softResetReinit | .fatalFault _
  | .intakeHaltAnnouncement | .reportUnitHaltAnnouncement | .glyphTableHaltAnnouncement
  | .rasterHaltAnnouncement | .laneUnitHaltAnnouncement | .syncTableHaltAnnouncement
  | .presentationHaltAnnouncement | .frameStart | .blinkPhaseToggle _ | .laneFrameStart | .marqueeStep _
  | .stepJump _ | .hostPortFrameStart | .syncFrameStart | .waitTimeout _ | .frameWaitEnd _
  | .laneAddition _ | .syncCancelRequest _ | .presentCancelRequest _ | .ownerAnswer _ | .reportAccepted _
  | .statusWordWriteEnd _ _ | .reportWriteEnd _ | .nop _ | .faceLoad _ | .faceDrop _ | .glyphPreload _
  | .glyphDefine _ | .glyphRelease _ | .surfaceSet _ | .clipSet _ | .fill _ | .copy _ | .expand _ | .text _
  | .laneSet _ | .laneTextWrite _ | .laneTextInsert _ | .laneTextDelete _ | .laneTextClear _
  | .laneTextCursor _ | .laneViewShow _ | .laneViewHide _ | .laneViewRefresh _ | .laneViewRelease _
  | .laneMotionStart _ | .laneMotionPause _ | .laneMotionResume _ | .laneMotionStop _
  | .laneMotionSetOffset _ | .present _ | .signalAdd _ | .signalSet _ | .wait _ | .waitFrame _ => true

end Sys2Proof
end

