-- ==== Sys2Proof/Machine/Intake.lean ====
section
/-! DEFINITION. The Intake Unit (chapter 7): ring status writes, the fetch arbiter, validation, groups, failures
and abandon walks, RCMD, owners' answers and report acceptances, and its halt. -/

namespace Sys2Proof.Machine

/-! ## The ring status word (R157) -/

/-- The status word write that starts with the ring as it stands. -/
def Ring.startStatus (k : Ring) : StatusWrite := .inFlight ⟨k.statusAddr.toNat, k.statusWord⟩

/-- The status write field when a write becomes due (R157). -/
def Ring.dueStatus (k : Ring) : Ring :=
  match k.statusWrite with
  | .none => { k with statusWrite := k.startStatus }
  | .inFlight w | .inFlightAndDue w => { k with statusWrite := .inFlightAndDue w }

/-- A status word write of ring `r` becomes due; none is started unless the part is RUNNING (R157, R197).
Writes that fall due in one handling are one (R157, log entry 15). -/
def State.statusDue (s : State) (r : RingId) : State :=
  if s.isRunning ∧ (s.ring r).state ≠ .unused then s.modRing r Ring.dueStatus else s

/-- A status write without error ends; one that is due starts while the part is RUNNING (R157). -/
def Ring.statusEnded (k : Ring) (running : Bool) : Ring :=
  match k.statusWrite with
  | .inFlightAndDue _ => { k with statusWrite := if running then k.startStatus else .none }
  | .none | .inFlight _ => { k with statusWrite := .none }

/-- A status write ends with a bus error (R157): a fatal fault while the part is RUNNING (R197).
Until the Host Port takes the fault the part is RUNNING, and a write that falls due for the ring may start (DESIGN
CHOICE, log entry 43). -/
def State.statusFailed (s : State) (r : RingId) : State :=
  let s' := s.modRing r fun k => { k with statusWrite := .none }
  if s.isRunning then s'.withTransit { s'.transit with faults := s'.transit.faults ++ [.statusBus r] } else s'

/-- STATUS_WORD_WRITE_END (R157). -/
def execStatusWordWriteEnd (ring : RingId) (busError : Bool) (s : State) :
    Host.Outcome State Fault Refusal :=
  .next <|
    if (s.ring ring).statusWrite = .none then s
    else if busError then s.statusFailed ring
    else s.modRing ring fun k => k.statusEnded s.isRunning

/-! ## The fetch arbiter (R141) -/

/-- The ring is a candidate for a fetch (R141). -/
def Ring.candidate (k : Ring) : Bool :=
  (k.head != k.post) && (k.walk.isSome || (k.state == .active && k.phase == .idle))

/-- The rings in round-robin order, from the one after the last served (R141). -/
def IntakeUnit.order (u : IntakeUnit) : List RingId :=
  [u.lastServed + 1, u.lastServed + 2, u.lastServed + 3, u.lastServed]

/-- The ring the arbiter chooses (R141). -/
def IntakeUnit.chosen (u : IntakeUnit) : Option RingId :=
  (u.order.find? fun r => u.rings[r].candidate && u.rings[r].cls == .urgent).or
    (u.order.find? fun r => u.rings[r].candidate)

/-- Grants a fetch where R141 gives one; only a RUNNING part grants (R190). -/
def State.grantFetch (s : State) : State :=
  match s.isRunning, s.intake.fetch, s.intake.chosen with
  | true, none, some r =>
    let s' := s.modRing r fun k => { k with phase := .fetching }
    s'.withIntake { s'.intake with
      fetch := some ⟨r, (s.ring r).base.toNat + (s.ring r).head * 32⟩, lastServed := r }
  | _, _, _ => s

/-! ## Entry boundaries and group ends (R138, R150) -/

/-- The phase becomes IDLE; a STOPPING ring becomes STOPPED at this boundary (R138). -/
def Ring.toIdle (k : Ring) : Ring :=
  { k with phase := .idle, state := if k.state = .stopping then .stopped else k.state }

/-- The group ends (R150). -/
def Ring.endGroup (k : Ring) : Ring := { k with done := k.head, position := 0 }.toIdle

/-- The phase of ring `r` becomes IDLE; a state change makes a status write due (R132, R138). -/
def State.idleRing (s : State) (r : RingId) : State :=
  let s' := s.modRing r Ring.toIdle
  if (s.ring r).state = .stopping then s'.statusDue r else s'

/-- The group of ring `r` ends (R150). -/
def State.endGroup (s : State) (r : RingId) : State := (s.modRing r Ring.endGroup).statusDue r

/-! ## Failures and abandon walks (R151, R152) -/

/-- The failure report of a walk (Table 33). -/
def Walk.report (w : Walk) (isOpen : Bool) : RingReport :=
  { index := w.index, kind := w.kind, status := w.status, tag := w.tag, position := w.position,
    skipped := w.skipped, openGroup := isOpen, detailA := w.detailA, detailB := w.detailB,
    after := .endGroup }

/-- An abandon walk ends, closed or open (R151). -/
def State.endWalk (s : State) (r : RingId) (w : Walk) (isOpen : Bool) : State :=
  (s.modRing r fun k => { k with walk := none, skip := isOpen }).offerRingReport r (w.report isOpen)

/-- An entry fails: an abandon walk opens, and may end at once (R151). -/
def State.openWalk (s : State) (r : RingId) (w : Walk) (cont : Bool) : State :=
  let s' := s.modRing r fun k => { k with service := none }
  if !cont then s'.endWalk r w false
  else if (s.ring r).head = (s.ring r).post then s'.endWalk r w true
  else s'.modRing r fun k => { k with walk := some w, phase := .fetching }

/-- A fetch of an abandon walk ends (R152). -/
def State.walkFetched (s : State) (r : RingId) (w : Walk) (read : ReadEnd) : State :=
  match read with
  | .busError => (s.modRing r fun k => { k with faultMark := true }).endWalk r w true
  | .ok bytes =>
    let head := indexPast (s.ring r).size (s.ring r).head
    let w' := { w with skipped := w.skipped + 1 }
    let s' := s.modRing r fun k => { k with head := head }
    if !(WorkEntry.mk bytes).cont then s'.endWalk r w' false
    else if head = (s.ring r).post then s'.endWalk r w' true
    else s'.modRing r fun k => { k with walk := some w' }

/-- A fetch for execution ends with a bus error (R154). -/
def State.fetchFailed (s : State) (r : RingId) : State :=
  let k := s.ring r
  (s.modRing r fun k => { k with faultMark := true }).endWalk r
    { index := k.head, kind := 0, tag := 0, position := if k.skip then 0 else k.position + 1,
      status := .busError, detailA := 0, detailB := 0, skipped := 0 } true

/-- An entry read for execution is a ring fault (R144, R154); head has moved past it. The kind its report
carries is the entry's kind byte as it stands, also for BAD_KIND, where the byte is none of Table 54's codes
(DESIGN CHOICE, log entry 34). -/
def State.ringFault (s : State) (r : RingId) (e : WorkEntry) (index : Nat) (status : Status) : State :=
  (s.modRing r fun k => { k with faultMark := true }).openWalk r
    { index := index, kind := e.byte 0, tag := e.tag, position := (s.ring r).position + 1,
      status := status, detailA := 0, detailB := 0, skipped := 0 } e.cont

/-! ## Completion (R149) -/

/-- The completion report of an entry (Table 33). -/
def EntryInService.completionReport (v : EntryInService) (a : Answer) : RingReport :=
  { index := v.index, kind := v.kind.code, status := a.status, tag := v.tag, position := v.position,
    skipped := 0, openGroup := false, detailA := a.detailA, detailB := a.detailB,
    after := if v.cont then .continueGroup else .endGroup }

/-- The entry in service completes (R149). -/
def State.completeEntry (s : State) (r : RingId) (v : EntryInService) (a : Answer) : State :=
  let s' := s.modRing r fun k => { k with service := none }
  if v.report then s'.offerRingReport r (v.completionReport a)
  else if v.cont then s'.idleRing r
  else s'.endGroup r

/-- The walk that the failure of the entry in service opens (R151). -/
def EntryInService.walk (v : EntryInService) (a : Answer) : Walk :=
  { index := v.index, kind := v.kind.code, tag := v.tag, position := v.position, status := a.status,
    detailA := a.detailA, detailB := a.detailB, skipped := 0 }

/-- A completion, OK or PARTIAL; every other status is a failure (R148). -/
def Answer.completes (a : Answer) : Bool := a.status == .ok || a.status == .partially

/-- The entry in service ends with an answer (R148). -/
def State.takeAnswer (s : State) (r : RingId) (a : Answer) : State :=
  match (s.ring r).service with
  | none => s
  | some v => if a.completes then s.completeEntry r v a else s.openWalk r (v.walk a) v.cont

/-! ## The end of a fetch (R142 to R147, R153) -/

/-- An entry is consumed as skipped (R153). -/
def State.skipEntry (s : State) (r : RingId) (e : WorkEntry) : State :=
  let head := indexPast (s.ring r).size (s.ring r).head
  (s.modRing r fun k =>
    { k with head := head, done := head, skip := k.skip && e.cont }.toIdle).statusDue r

/-- An entry that passes validation becomes the entry in service and is handed to its owner; NOP is answered
in the same handling (R144, R146, R147). -/
def State.handEntry (s : State) (r : RingId) (e : WorkEntry) (index : Nat) (kind : Kind) : State :=
  let v : EntryInService := ⟨index, kind, e.tag, e.cont, e.report, (s.ring r).position + 1⟩
  let s' := s.modRing r fun k =>
    { k with position := k.position + 1, service := some v, phase := .serving }
  if kind = .nop then s'.completeEntry r v .done
  else s'.withTransit { s'.transit with handover := update s'.transit.handover r (some e) }

/-- An entry fetched for execution: head moves, and it is validated (R142, R144). -/
def State.validateEntry (s : State) (r : RingId) (e : WorkEntry) : State :=
  let index := (s.ring r).head
  let s' := s.modRing r fun k => { k with head := indexPast k.size k.head }
  match e.kind with
  | none => s'.ringFault r e index .badKind
  | some kind =>
    if Config.groupLimit ≤ (s.ring r).position then s'.ringFault r e index .badChain
    else s'.handEntry r e index kind

/-- The fetch of ring `r` has ended (R142). -/
def State.fetched (s : State) (r : RingId) (read : ReadEnd) : State :=
  let k := s.ring r
  match k.walk with
  | some w => s.walkFetched r w read
  | none =>
    if k.state = .stopping then s.idleRing r
    else
      match read with
      | .busError => s.fetchFailed r
      | .ok bytes => if k.skip then s.skipEntry r ⟨bytes⟩ else s.validateEntry r ⟨bytes⟩

/-- ENTRY_FETCH_END (R142): without effect once the part has left RUNNING (R158). -/
def execEntryFetchEnd (read : ReadEnd) (s : State) : Host.Outcome State Fault Refusal :=
  .next <|
    match s.intake.fetch with
    | none => s
    | some f =>
      let s' := s.withIntake { s.intake with fetch := none }
      if s.isRunning then (s'.fetched f.ring read).grantFetch else s'

/-! ## Halt and reset (R158) -/

/-- A ring record at a halt or reset announcement (R158). -/
def Ring.halted (k : Ring) : Ring :=
  { k with
    phase := .idle, service := none, walk := none, reportDue := none, faultMark := false,
    statusWrite := match k.statusWrite with
      | .inFlightAndDue w => .inFlight w
      | .none => .none
      | .inFlight w => .inFlight w }

/-- What the Intake Unit does on a halt or reset announcement (R158): the messages about the entries it
abandons go with them (log entry 7). -/
def State.haltIntake (s : State) : State :=
  (s.withIntake { s.intake with rings := mapTable Ring.halted s.intake.rings }).withTransit
    { s.transit with
      handover := Vector.replicate 4 none, answers := Vector.replicate 4 none, glyphAnswers := [],
      accepted := Vector.replicate 4 false, syncCancel := Vector.replicate 4 false,
      presentCancel := Vector.replicate 4 false, halts := { s.transit.halts with intake := false } }

/-- During RESETTING the Intake Unit, like the other blocks, takes the reset's announcement before any other
happening of its own: it changes no ring state until the reinitialisation (R201; log entry 18). -/
def State.quiesceIntake (s : State) : State :=
  if s.part = .resetting ∧ s.transit.halts.intake then s.haltIntake else s

/-! ## Answers and acceptances (R148, R156) -/

/-- The answer that waits for ring `r`, and every cancel request still on its way for the entry it ends, are
taken away (log entry 6). -/
def Transit.withoutAnswer (t : Transit) (r : RingId) : Transit :=
  { t with
    answers := update t.answers r Option.none, glyphAnswers := t.glyphAnswers.filter (· != r),
    syncCancel := update t.syncCancel r false, presentCancel := update t.presentCancel r false }

/-- The answer of ring `r` may be taken: no answer that the Glyph Table gave before it still waits (R5). -/
def Transit.inTurn (t : Transit) (r : RingId) : Bool :=
  !t.glyphAnswers.contains r || t.glyphAnswers.head? == some r

/-- OWNER_ANSWER (R148); the answers of the Glyph Table are taken in the order in which its entries ended (R5). -/
def execOwnerAnswer (ring : RingId) (s : State) : Host.Outcome State Fault Refusal :=
  let s' := s.quiesceIntake
  .next <|
    match s'.transit.answers[ring] with
    | none => s'
    | some a =>
      if s'.transit.inTurn ring then
        ((s'.withTransit (s'.transit.withoutAnswer ring)).takeAnswer ring a).grantFetch
      else s'

/-- The ring record after the acceptance of its report (R156). -/
def Ring.accepted (k : Ring) (after : AfterReport) : Ring :=
  let k' := { k with reportDue := none, faultMark := false, state := if k.faultMark then .faulted else k.state }
  match after with
  | .continueGroup | .flushed => k'.toIdle
  | .endGroup => k'.endGroup

/-- The Intake Unit takes the acceptance of a ring's report (R156): a change of state or of done makes a
status write due. -/
def State.acceptReport (s : State) (r : RingId) : State :=
  match (s.ring r).reportDue with
  | none => s
  | some rep =>
    let s' := s.modRing r fun k => k.accepted rep.after
    if rep.after = .endGroup ∨ (s'.ring r).state ≠ (s.ring r).state then s'.statusDue r else s'

/-- REPORT_ACCEPTED (R156); as in RUNNING between a fatal fault and the Intake Unit's announcement (DESIGN CHOICE, log
entry 42). -/
def execReportAccepted (ring : RingId) (s : State) : Host.Outcome State Fault Refusal :=
  let s' := s.quiesceIntake
  .next <|
    if s'.transit.accepted[ring] then
      ((s'.withTransit { s'.transit with
        accepted := update s'.transit.accepted ring false }).acceptReport ring).grantFetch
    else s'

/-- NOP (R147): answered in the handling in which it passes validation (log entry 4); a NOP that stands in
service is answered here. -/
def execNop (ring : RingId) (s : State) : Host.Outcome State Fault Refusal :=
  let s' := s.quiesceIntake
  .next <|
    match (s'.ring ring).service with
    | some v =>
      if v.kind = .nop ∧ (s'.ring ring).phase = .serving then (s'.completeEntry ring v .done).grantFetch else s'
    | none => s'

/-! ## RCMD (R134 to R140) -/

/-- The index of an RCMD value (Table 51). -/
def rcmdIndex (value : Word) : Nat := (value.extractLsb' 16 16).toNat

/-- The ring of an RCMD value, where it names one (Table 51). -/
def rcmdRing (value : Word) : Option RingId := recordNumber 4 (value.extractLsb' 0 4).toNat

/-- A POST of an index is accepted (R135). -/
def Ring.postAccepted (k : Ring) (index : Nat) : Bool :=
  decide (index < k.size) && decide (forward k.size k.head k.post ≤ forward k.size k.head index) &&
  decide (forward k.size k.done k.head + forward k.size k.head index ≤ k.size - 1)

/-- POST (R135). -/
def State.post (s : State) (r : RingId) (index : Nat) : State :=
  if (s.ring r).postAccepted index then (s.modRing r fun k => { k with post := index }).grantFetch
  else s.setEvent .protocol

/-- Sends the cancel request that a STOP on an ACTIVE ring in phase SERVING sends (R137). -/
def State.sendCancel (s : State) (r : RingId) : State :=
  match (s.ring r).service with
  | some v =>
    match v.kind with
    | .wait | .waitFrame =>
      s.withTransit { s.transit with syncCancel := update s.transit.syncCancel r true }
    | .present => s.withTransit { s.transit with presentCancel := update s.transit.presentCancel r true }
    | _ => s
  | none => s

/-- STOP (R136, R137). -/
def State.stop (s : State) (r : RingId) : State :=
  let k := s.ring r
  if k.state = .active then
    if k.phase = .idle then (s.modRing r fun k => { k with state := .stopped }).statusDue r
    else
      let s' := if k.phase = .serving then s.sendCancel r else s
      (s'.modRing r fun k => { k with state := .stopping }).statusDue r
  else s

/-- RESUME (R139). -/
def State.resume (s : State) (r : RingId) : State :=
  if (s.ring r).state = .active then s.setEvent .protocol
  else ((s.modRing r fun k => { k with state := .active }).statusDue r).grantFetch

/-- The FLUSH report (Table 33). -/
def Ring.flushReport (k : Ring) : RingReport :=
  { index := k.done, kind := 0, status := .flushed, tag := 0, position := 0, skipped := 0,
    openGroup := false, detailA := BitVec.ofNat 16 (forward k.size k.head k.post), detailB := 0,
    after := .flushed }

/-- The ring record after an accepted FLUSH (R140, steps 2 and 3). -/
def Ring.flushed (k : Ring) : Ring :=
  { k with head := k.post, done := k.post, skip := false, position := 0, state := .stopped }

/-- FLUSH (R140). -/
def State.flush (s : State) (r : RingId) : State :=
  let k := s.ring r
  if (k.state = .stopped ∨ k.state = .faulted) ∧ k.phase = .idle then
    let s' := (s.modRing r Ring.flushed).statusDue r
    if forward k.size k.head k.post = 0 then s' else s'.offerRingReport r k.flushReport
  else s.setEvent .protocol

/-- A 32-bit write of RCMD (R134). -/
def State.writeRcmd (s : State) (value : Word) : State :=
  if s.part = .resetting then s
  else
    match s.isRunning, rcmdRing value with
    | true, some r =>
      if (s.ring r).state = .unused then s.setEvent .protocol
      else
        match (rcmdOperation value).toNat with
        | 0 => s.post r (rcmdIndex value)
        | 1 => s.stop r
        | 2 => s.resume r
        | 3 => s.flush r
        | _ => s.setEvent .protocol
    | _, _ => s.setEvent .protocol

/-- RCMD_POST (R134, R135). -/
def execRcmdPost (value : Word) (s : State) : Host.Outcome State Fault Refusal := .next (s.writeRcmd value)

/-- RCMD_STOP (R134, R136, R137). -/
def execRcmdStop (value : Word) (s : State) : Host.Outcome State Fault Refusal := .next (s.writeRcmd value)

/-- RCMD_RESUME (R134, R139). -/
def execRcmdResume (value : Word) (s : State) : Host.Outcome State Fault Refusal := .next (s.writeRcmd value)

/-- RCMD_FLUSH (R134, R140). -/
def execRcmdFlush (value : Word) (s : State) : Host.Outcome State Fault Refusal := .next (s.writeRcmd value)

/-! ## The halt announcement (R158) -/

/-- INTAKE_HALT_ANNOUNCEMENT (R158). -/
def execIntakeHaltAnnouncement (s : State) : Host.Outcome State Fault Refusal :=
  .next (if s.transit.halts.intake then s.haltIntake else s)

end Sys2Proof.Machine
end

