-- ==== Sys2Proof/Machine/Presentation.lean ====
section
/-! DEFINITION. The Presentation Unit (chapter 4) and the blink classes (R67): backgrounds and scan holds,
PRESENT, frame starts, and what the panel shows of the frame in hand. -/

namespace Sys2Proof.Machine

/-! ## Backgrounds and scan holds (R78) -/

/-- The surface a background names. -/
def Background.surface? : Background → Option SurfaceId
  | .blank _ => none
  | .view n _ _ => some n

/-- The hold of surface `n` under the backgrounds (R78). -/
def PresentationUnit.holdOf (u : PresentationUnit) (n : SurfaceId) : Hold :=
  if (u.pending.bind fun p => p.background.surface?) = some n then .pending
  else if u.front.surface? = some n then .front
  else .none

/-- The surfaces with the holds that the backgrounds give (R78, R97). -/
def heldSurfaces (u : PresentationUnit) (v : Vector Surface 16) : Vector Surface 16 :=
  Vector.ofFn fun n => { v[n] with hold := u.holdOf n }

/-- Replaces the Presentation Unit after a change of its backgrounds, and the holds with it (R78). -/
def State.withBackgrounds (s : State) (u : PresentationUnit) : State :=
  (s.withPresentation u).withSurfaces (heldSurfaces u s.surfaces)

/-! ## PRESENT (R79 to R81) -/

/-- The checks of R79 on a surface that an entry names. -/
def PresentationUnit.viewFails (u : PresentationUnit) (k : Surface) (x y : Nat) : Option Status :=
  if k.state = .unset then some .notSet
  else if k.space = .host ∨ k.depth ≠ 8 then some .badOperand
  else if k.width < x + u.panelWidth ∨ k.height < y + u.panelHeight then some .badOperand
  else none

/-- The background a PRESENT gives, or its failing status (R79). -/
def State.checkPresent (s : State) (e : WorkEntry) : Except Status Background :=
  let a := e.presentArgs
  match a.surface with
  | none => .error .badOperand
  | some none => .ok (.blank a.blank)
  | some (some n) =>
    match s.presentation.viewFails s.surfaces[n] a.x a.y with
    | some status => .error status
    | none => .ok (.view n a.x a.y)

/-- The pending background becomes the one of ring `r`'s PRESENT. -/
def State.setPendingBackground (s : State) (b : Background) (r : RingId) : State :=
  s.withBackgrounds { s.presentation with pending := some ⟨b, some r⟩ }

/-- PRESENT is taken (R79, R80). -/
def State.servePresent (r : RingId) (e : WorkEntry) (s : State) : State :=
  match s.checkPresent e with
  | .error status => s.giveAnswer r (.failed status)
  | .ok b =>
    if s.presentation.pending.isNone then s.setPendingBackground b r
    else s.withPresentation { s.presentation with queue := s.presentation.queue ++ [⟨r, e⟩] }

/-- PRESENT (R79, R80). -/
def execPresent (ring : RingId) (s : State) : Host.Outcome State Fault Refusal :=
  .next (s.takeRunningEntry ring .present (fun _ => true) (State.servePresent ring))

/-- Heads of the present queue are taken until one passes its second check or none is left (R81, step 3). The
Intake Unit may take the answers of the heads that fail in any order (DESIGN CHOICE, log entry 40). -/
def State.promoteQueue : List RingEntry → State → State
  | [], s => s.withPresentation { s.presentation with queue := [] }
  | e :: rest, s =>
    match s.checkPresent e.entry with
    | .ok b => (s.withPresentation { s.presentation with queue := rest }).setPendingBackground b e.ring
    | .error status => State.promoteQueue rest (s.giveAnswer e.ring (.failed status))

/-- Answers the PRESENT that set a background, unless it has been abandoned (R81, R87). -/
def State.answerPresent (s : State) (r : Option RingId) : State :=
  match r with
  | some r => s.giveAnswer r .done
  | none => s

/-- Step 2 of a frame start (R81). -/
def State.promote (s : State) : State :=
  match s.presentation.pending with
  | none => s
  | some p =>
    let s' := s.withBackgrounds { s.presentation with front := p.background, pending := none }
    State.promoteQueue s.presentation.queue (s'.answerPresent p.ring)

/-! ## Blink classes (R67) -/

/-- Toggles the phase and reloads the countdown (R67). -/
def BlinkClass.toggle (k : BlinkClass) : BlinkClass :=
  match k.phase with
  | .on => { k with phase := .off, countdown := k.offFrames }
  | .off => { k with phase := .on, countdown := k.onFrames }

/-- Toggles the phase of a class whose countdown has reached 0 (R67). -/
def BlinkClass.settle (k : BlinkClass) : BlinkClass := if k.countdown = 0 then k.toggle else k

/-- A class at a frame start (R67). -/
def BlinkClass.frame (k : BlinkClass) : BlinkClass := { k with countdown := k.countdown - 1 }.settle

/-! ## Frame starts (R75, R77) -/

/-- The front background as the frame that begins shows it (R84). -/
def State.shownBackground (s : State) : ShownBackground :=
  match s.presentation.front with
  | .blank c => .blank c
  | .view n x y => .pixels (s.surfaces[n]).base.toNat (s.surfaces[n]).pitch x y

/-- What the Lane Unit receives of a frame start (R77). -/
def State.frameNotice (s : State) : FrameNotice :=
  ⟨mapTable BlinkClass.phase s.presentation.blink, s.shownBackground⟩

/-- Step 4 of a frame start (R75, R77). -/
def State.announceFrame (s : State) : State :=
  s.withTransit { s.transit with
    laneFrames := s.transit.laneFrames ++ [s.frameNotice],
    syncFrames := s.transit.syncFrames + 1,
    hostFrames := s.transit.hostFrames ++ [s.presentation.frameCounter] }

/-- A frame start at the Presentation Unit (R75). -/
def State.frameStart (s : State) : State :=
  let s1 := s.withPresentation { s.presentation with frameCounter := s.presentation.frameCounter + 1 }
  let s2 := s1.promote
  let s3 := s2.withPresentation { s2.presentation with blink := mapTable BlinkClass.frame s2.presentation.blink }
  s3.announceFrame

/-- FRAME_START (R74, R75): the frame timer runs out; it does not run while the unit is OFF (R72). -/
def execFrameStart (s : State) : Host.Outcome State Fault Refusal :=
  .next (if s.presentation.state = .running then s.frameStart else s)

/-- BLINK_PHASE_TOGGLE (R67): the part of a frame start that toggles one class (log entry 4). -/
def execBlinkPhaseToggle (blink : BlinkId) (s : State) : Host.Outcome State Fault Refusal :=
  .next <|
    if s.presentation.state = .running then
      s.withPresentation { s.presentation with
        blink := update s.presentation.blink blink (s.presentation.blink[blink]).settle }
    else s

/-- HOST_PORT_FRAME_START (R173): takes the oldest announcement. -/
def execHostPortFrameStart (s : State) : Host.Outcome State Fault Refusal :=
  .next <|
    match s.transit.hostFrames with
    | [] => s
    | n :: rest =>
      let s' := s.withTransit { s.transit with hostFrames := rest }
      (s'.withHost { s'.host with fcnt := n }).setEvent .frame

/-! ## Cancel requests and halts (R82, R87) -/

/-- Removes the PRESENT of ring `r` from the present queue and answers CANCELLED where it was there (R82). -/
def State.cancelPresent (s : State) (r : RingId) : State :=
  if s.presentation.queue.any fun e => e.ring == r then
    (s.withPresentation { s.presentation with
      queue := s.presentation.queue.filter fun e => !(e.ring == r) }).giveAnswer r (.failed .cancelled)
  else s

/-- PRESENT_CANCEL_REQUEST (R82). The request was sent after the entry was handed over and is taken after it
(log entry 6). -/
def execPresentCancelRequest (ring : RingId) (s : State) : Host.Outcome State Fault Refusal :=
  .next <|
    if s.transit.presentCancel[ring] && (s.handedOver ring).isNone then
      (s.withTransit { s.transit with
        presentCancel := update s.transit.presentCancel ring false }).cancelPresent ring
    else s

/-- What the Presentation Unit does on a halt or reset announcement (R87, R88). -/
def State.haltPresentation (s : State) : State :=
  (s.withPresentation { s.presentation with
    queue := [], pending := s.presentation.pending.map fun p => { p with ring := none } }).withTransit
    (s.transit.dropHandovers fun k => k == .present)

/-- PRESENTATION_HALT_ANNOUNCEMENT (R87). -/
def execPresentationHaltAnnouncement (s : State) : Host.Outcome State Fault Refusal :=
  .next <|
    if s.transit.halts.presentation then
      let s' := s.haltPresentation
      s'.withTransit { s'.transit with halts := { s'.transit.halts with presentation := false } }
    else s

end Sys2Proof.Machine
end

