-- ==== Sys2Proof/Machine/Control.lean ====
section
/-! DEFINITION. Part control (chapter 10) and the Host Port's register writes (R171, R172, R191, R192, R203):
the setup load, fatal faults, soft reset and power-on reset. -/

namespace Sys2Proof.Machine

/-! ## Transfers in flight -/

/-- A pixel transfer in flight uses the Memory Port (R92). -/
def RasterEngine.usesPort (u : RasterEngine) : Bool :=
  match u.drawing with
  | some d => d.transfer.space == .host
  | none => false

/-- The Memory Port has a transfer in flight (R193, R199). -/
def State.portBusy (s : State) : Bool :=
  s.host.setupRead.isSome || s.intake.fetch.isSome ||
  s.intake.rings.toList.any (fun k => k.statusWrite != .none) || s.report.write.isSome ||
  s.glyph.fetch.isSome || s.glyph.defineRead.isSome || !s.glyph.lostReads.isEmpty ||
  (s.lane.service.bind LaneService.read).isSome || !s.lane.lostReads.isEmpty ||
  s.raster.codeRead.isSome || !s.raster.lostReads.isEmpty || s.raster.usesPort

/-- The Memory Port has no transfer in flight and the Raster Engine is IDLE (R193, R199). -/
def State.drained (s : State) : Bool := !s.portBusy && s.raster.service.isNone

/-! ## The checks of the setup block (R194) -/

/-- A power of two of units of `unit` bytes from `base` stays inside the address space (Table 47, note 1). -/
def blockFits (base exponent unit : Nat) : Bool := decide (base + 2 ^ exponent * unit - 1 ≤ Config.hostTop)

/-- The four fields of ring `n`, each with whether it fails (Table 47). -/
def ringFieldFails (block : List Byte) (n : Nat) : List (Nat × Bool) :=
  let d := ringDescriptorAt block n
  let used := d.exponent != 0
  [(4 * n + 1, used && !(decide (4 ≤ d.exponent ∧ d.exponent ≤ 10))),
   (4 * n + 2, used && !(decide (d.base.toNat % 32 = 0) && blockFits d.base.toNat d.exponent 32)),
   (4 * n + 3, used && decide (1 < d.cls)),
   (4 * n + 4, used && decide (d.statusAddr.toNat % 4 ≠ 0))]

/-- The two fields of the report ring (Table 47). -/
def reportFieldFails (block : List Byte) : List (Nat × Bool) :=
  let n := reportExponentOf block
  let base := (reportBaseOf block).toNat
  [(17, !(decide (4 ≤ n ∧ n ≤ 12))), (18, !(decide (base % 16 = 0) && blockFits base n 16))]

/-- A blink field is outside 1..255 (Table 47). -/
def blinkFieldFails (n : Nat) : Bool := !(decide (1 ≤ n ∧ n ≤ 255))

/-- Fields 19 to 27 (Table 47). -/
def panelFieldFails (block : List Byte) : List (Nat × Bool) :=
  let p := panelFieldsOf block
  [(19, !(decide (16 ≤ p.width ∧ p.width ≤ 512))), (20, !(decide (8 ≤ p.height ∧ p.height ≤ 128))),
   (21, !(decide (2000 ≤ p.period ∧ p.period ≤ 100000))),
   (22, blinkFieldFails p.on1), (23, blinkFieldFails p.off1), (24, blinkFieldFails p.on2),
   (25, blinkFieldFails p.off2), (26, blinkFieldFails p.on3), (27, blinkFieldFails p.off3)]

/-- The first field that fails, in ascending field number (R194); fields 19 to 27 are checked while the
Presentation Unit is OFF. -/
def setupFails (block : List Byte) (u : PresentationState) : Option Nat :=
  let fields := ringFieldFails block 0 ++ ringFieldFails block 1 ++ ringFieldFails block 2 ++
    ringFieldFails block 3 ++ reportFieldFails block ++
    (if u = .off then panelFieldFails block else [])
  (fields.find? fun f => f.2).map Prod.fst

/-! ## A setup load that succeeds (R195) -/

/-- A ring as its descriptor sets it (R131). -/
def RingDescriptor.ring (d : RingDescriptor) : Ring :=
  if d.exponent = 0 then Ring.unused
  else
    { Ring.unused with
      base := d.base, size := 2 ^ d.exponent, cls := if d.cls = 1 then .urgent else .normal,
      statusAddr := d.statusAddr, state := .active }

/-- The Intake Unit as a setup load leaves it (R131). -/
def IntakeUnit.loaded (u : IntakeUnit) (block : List Byte) : IntakeUnit :=
  { u with rings := Vector.ofFn fun n => (ringDescriptorAt block n.1).ring, lastServed := 3 }

/-- The Report Unit as a setup load leaves it (R174). -/
def loadedReport (block : List Byte) : ReportUnit :=
  { ReportUnit.reset with base := reportBaseOf block, size := 2 ^ reportExponentOf block }

/-- A blink class as a setup load starts it (R67). -/
def startedBlink (onFrames offFrames : Nat) : BlinkClass := ⟨onFrames, offFrames, .on, onFrames + 1⟩

/-- The Presentation Unit as a setup load leaves it (R73): a RUNNING one takes nothing. -/
def PresentationUnit.loaded (u : PresentationUnit) (block : List Byte) : PresentationUnit :=
  match u.state with
  | .running => u
  | .off =>
    let p := panelFieldsOf block
    { u with
      state := .running, panelWidth := p.width, panelHeight := p.height, framePeriod := p.period,
      front := .blank 0, pending := none, queue := [],
      blink := #v[startedBlink p.on1 p.off1, startedBlink p.on2 p.off2, startedBlink p.on3 p.off3] }

/-- The Host Port as a setup load that succeeds leaves it (R195). -/
def HostPort.loaded (h : HostPort) : HostPort :=
  { h with part := .running, fault := .none, faultDetail := 0, origin := .none, setupData := none }

/-- A setup load succeeds (R195): the blocks take their descriptors, the holds follow the backgrounds (R78), the
part becomes RUNNING, each ring made ACTIVE starts its status word write, and the arbiter grants the lanes that
wait. -/
def State.loadSucceeds (s : State) (block : List Byte) : State :=
  let s' := (((s.withIntake (s.intake.loaded block)).withReport (loadedReport block)).withBackgrounds
    (s.presentation.loaded block)).withHost s.host.loaded
  ((((s'.statusDue 0).statusDue 1).statusDue 2).statusDue 3).serveReports

/-- A setup load fails (R196). -/
def State.loadFails (s : State) (fault : FaultCode) (detail : Nat) : State :=
  (s.withHost { s.host with
    part := .halted, fault := fault, faultDetail := detail, origin := .none, setupData := none }).setEvent .halt

/-- The load ends: the block that was read is checked (R193, R194). -/
def State.endLoad (s : State) (read : ReadEnd) : State :=
  match read with
  | .busError => s.loadFails .setupBus 0
  | .ok block =>
    match setupFails block s.presentation.state with
    | some field => s.loadFails .setupInvalid field
    | none => s.loadSucceeds block

/-- The load ends where its read has ended and nothing keeps it waiting (R193); a halt that a block has not
yet taken keeps it waiting, too (log entry 16). -/
def State.tryEndLoad (s : State) : State :=
  match s.part, s.host.setupData with
  | .loading, some read => if s.drained ∧ s.transit.halts = HaltNotices.none then s.endLoad read else s
  | _, _ => s

/-- SETUP_READ_END (R193): the data are kept until the load ends, which may be at once. -/
def execSetupReadEnd (read : ReadEnd) (s : State) : Host.Outcome State Fault Refusal :=
  .next <|
    match s.host.setupRead with
    | none => s
    | some x =>
      if x.discarded then s.withHost { s.host with setupRead := none }
      else (s.withHost { s.host with setupRead := none, setupData := some read }).tryEndLoad

/-- SETUP_LOAD_END (R193 to R196). -/
def execSetupLoadEnd (s : State) : Host.Outcome State Fault Refusal := .next s.tryEndLoad

/-! ## CTRL and SETUP (R191 to R193, R199) -/

/-- A setup load begins (R193): an address above 0FFFFFF80H fails it at once. -/
def State.beginLoad (s : State) (origin : LoadOrigin) : State :=
  let s' := s.withHost { s.host with part := .loading, origin := origin, setupData := none }
  if 0xFFFFFF80 < s.host.setupAddr.toNat then s'.loadFails .setupInvalid 0
  else s'.withHost { s'.host with setupRead := some ⟨s.host.setupAddr.toNat, false⟩ }

/-- The soft reset begins (R199). -/
def State.beginReset (s : State) : State :=
  (s.withHost { s.host with
    part := .resetting, origin := .none, setupData := none,
    setupRead := s.host.setupRead.map fun x => { x with discarded := true } }).withTransit
    { s.transit with halts := HaltNotices.all, faults := [] }

/-- A 32-bit write of CTRL (R191): bit 0 RUN, bit 1 RESET (Table 51). -/
def State.writeCtrl (s : State) (value : Word) : State :=
  if s.part = .resetting then s
  else if value.getLsbD 1 then s.beginReset
  else if value.getLsbD 0 then
    match s.part with
    | .idle => s.beginLoad .idle
    | .halted => s.beginLoad .halted
    | .loading | .running | .resetting => s
  else s

/-- CTRL_RUN (R191, R193). -/
def execCtrlRun (value : Word) (s : State) : Host.Outcome State Fault Refusal := .next (s.writeCtrl value)

/-- CTRL_RESET (R191, R199). -/
def execCtrlReset (value : Word) (s : State) : Host.Outcome State Fault Refusal := .next (s.writeCtrl value)

/-- A 32-bit write of SETUP (R192). -/
def State.writeSetup (s : State) (value : Word) : State :=
  match s.part with
  | .idle | .halted => s.withHost { s.host with setupAddr := value &&& 0xFFFFFFC0 }
  | .loading | .running | .resetting => s

/-- SETUP_WRITE (R192). -/
def execSetupWrite (value : Word) (s : State) : Host.Outcome State Fault Refusal := .next (s.writeSetup value)

/-! ## EVT and EVTEN (R171, R172) -/

/-- A 32-bit write of EVT: each bit written 1 is cleared (R171). -/
def State.writeEvt (s : State) (value : Word) : State :=
  if s.part = .resetting then s
  else s.withHost { s.host with evt := s.host.evt &&& ~~~(value.extractLsb' 0 4) }

/-- EVT_WRITE (R171). -/
def execEvtWrite (value : Word) (s : State) : Host.Outcome State Fault Refusal := .next (s.writeEvt value)

/-- A 32-bit write of EVTEN replaces the enable bits (R172). -/
def State.writeEvten (s : State) (value : Word) : State :=
  if s.part = .resetting then s else s.withHost { s.host with evten := value.extractLsb' 0 4 }

/-- EVTEN_WRITE (R172). -/
def execEvtenWrite (value : Word) (s : State) : Host.Outcome State Fault Refusal := .next (s.writeEvten value)

/-! ## Writes that are ignored (R203) -/

/-- A 32-bit write of a register (R203, Table 50). -/
def State.writeRegister (s : State) (reg : Register) (value : Word) : State :=
  match reg with
  | .ctrl => s.writeCtrl value
  | .setup => s.writeSetup value
  | .rcmd => s.writeRcmd value
  | .rrel => s.writeRrel value
  | .evt => s.writeEvt value
  | .evten => s.writeEvten value
  | .stat | .fcnt => s

/-- IGNORED_REGISTER_WRITE (R203): a write of fewer than 32 bits, to STAT or FCNT, or during RESETTING; a
write that is none of these acts as its register's rule gives. -/
def execIgnoredRegisterWrite (reg : Register) (size : AccessSize) (value : Word) (s : State) :
    Host.Outcome State Fault Refusal :=
  .next <|
    match size with
    | .bits8 | .bits16 => s
    | .bits32 => s.writeRegister reg value

/-! ## Fatal faults (R197) -/

/-- The fault code of a fatal fault (Table 45). -/
def faultCodeOf : FatalFault → FaultCode
  | .reportBus => .reportBus
  | .statusBus _ => .statusBus

/-- The fault detail of a fatal fault (Table 45, note 1). -/
def faultDetailOf : FatalFault → Nat
  | .reportBus => 0
  | .statusBus ring => ring.1

/-- The Host Port takes a fatal fault: the part becomes HALTED and the halt is announced (R197). -/
def State.haltPart (s : State) (f : FatalFault) : State :=
  ((s.withHost { s.host with
    part := .halted, fault := faultCodeOf f, faultDetail := faultDetailOf f }).setEvent .halt).withTransit
    { s.transit with halts := HaltNotices.all, faults := [] }

/-- FATAL_FAULT (R197): one that finds the part not RUNNING raises none. -/
def execFatalFault (fault : FatalFault) (s : State) : Host.Outcome State Fault Refusal :=
  .next <|
    if fault ∈ s.transit.faults then
      if s.isRunning then s.haltPart fault
      else s.withTransit { s.transit with faults := s.transit.faults.erase fault }
    else s

/-! ## Resets (R200, R202) -/

/-- The part with every block at its reset values; frame memory and the waiting commands stay (R89, R200). -/
def State.reinitialised (s : State) (cause : ResetCause) : State :=
  ((State.reset.withHost (HostPort.reset cause)).withFrameMemory s.frameMemory).withPending s.pending

/-- SOFT_RESET_REINIT (R199, R200). -/
def execSoftResetReinit (s : State) : Host.Outcome State Fault Refusal :=
  .next (if s.part = .resetting ∧ s.drained then s.reinitialised .soft else s)

/-- POWER_ON_RESET (R202). -/
def execPowerOnReset (s : State) : Host.Outcome State Fault Refusal := .next (s.reinitialised .powerOn)

end Sys2Proof.Machine
end

