-- ==== Sys2Proof/Machine/Glyph.lean ====
section
/-! DEFINITION. The Glyph Table by itself (chapter 1): the key map, pins and the reclaim list, lookups, the
fetch queue and fills, defines, and the freeing of slots. What its answers make other blocks do is in
`Settle.lean`. -/

namespace Sys2Proof.Machine

/-- What is still to be done in a handling that has reached several blocks: a requester takes its lookup
answer, the owned entry in service at the Glyph Table ends, or a block takes its next entry or claim. -/
inductive Task where
  | answered (who : Requester) (answer : LookupAnswer)
  | glyphEnd (answer : Answer)
  | glyphTake
  | laneTake
  | rasterTake
  deriving DecidableEq, Repr

namespace GlyphTable

/-- Replaces slot record `n`. -/
def setSlot (g : GlyphTable) (n : SlotId) (k : Slot) : GlyphTable := { g with slots := update g.slots n k }

/-- The key map (R7): the slot that holds or is filling a key. -/
def slotOf (g : GlyphTable) (k : Key) : Option SlotId := lowest (fun x => x.key == some k) g.slots

/-- The number of slots in state USER (R10). -/
def userCount (g : GlyphTable) : Nat := g.slots.toList.countP fun x => x.state == .user

/-! ## Pins and the reclaim list (R8, R9) -/

/-- Takes a slot off the reclaim list. -/
def unlist (g : GlyphTable) (n : SlotId) : GlyphTable := { g with reclaim := g.reclaim.filter (· != n) }

/-- Puts a slot at the tail of the reclaim list, without duplicates. -/
def listLast (g : GlyphTable) (n : SlotId) : GlyphTable :=
  { g with reclaim := g.reclaim.filter (· != n) ++ [n] }

/-- Adds one pin (R8): a RESIDENT slot whose pin count rises from 0 leaves the reclaim list. -/
def pin (g : GlyphTable) (n : SlotId) : GlyphTable :=
  let k := g.slots[n]
  let g' := g.setSlot n { k with pins := k.pins + 1 }
  if k.state = .resident ∧ k.pins = 0 then g'.unlist n else g'

/-- Takes one pin away (R8): a RESIDENT slot whose pin count falls to 0 joins the reclaim tail. -/
def unpin (g : GlyphTable) (n : SlotId) : GlyphTable :=
  let k := g.slots[n]
  let g' := g.setSlot n { k with pins := k.pins - 1 }
  if k.state = .resident ∧ k.pins = 1 then g'.listLast n else g'

/-- Unpins, in order, the slots that hold a pin. -/
def unpinAll : List (Option SlotId) → GlyphTable → GlyphTable
  | [], g => g
  | none :: rest, g => unpinAll rest g
  | some n :: rest, g => unpinAll rest (g.unpin n)

/-- A requester that pins the slot it is answered with (R11). -/
def pinning : Requester → Bool
  | .text | .laneEdit => true
  | .preload | .define => false

/-- What an answer with slot `n` does to the slot (R13): a pinning requester pins it; a non-pinning one
moves a RESIDENT slot on the reclaim list to its tail. -/
def hit (g : GlyphTable) (who : Requester) (n : SlotId) : GlyphTable :=
  if pinning who then g.pin n
  else if g.slots[n].state = .resident ∧ n ∈ g.reclaim then g.listLast n
  else g

/-! ## Bitmaps (R6) -/

/-- A bitmap of the rows read; the remaining rows are 0 (R6). -/
def bitmapOf (rows : List Half) : Bitmap := ⟨⟨(List.range 32).map fun r => rows.getD r 0⟩, by simp⟩

/-! ## Allocation (R17) -/

/-- The slot an allocation takes (R17): the lowest FREE slot, else the head of the reclaim list, which is
evicted; with the table after the eviction. -/
def allocate (g : GlyphTable) : Option (SlotId × GlyphTable) :=
  match lowest (fun k => k.state == .free) g.slots with
  | some n => some (n, g)
  | none =>
    match g.reclaim with
    | [] => none
    | n :: rest => some (n, { g.setSlot n { g.slots[n] with key := none } with reclaim := rest })

/-- The host address of the glyph of a code of a LOADED face (R1). -/
def glyphAddr (f : Face) (code : Half) : Nat := f.base.toNat + (code.toNat - f.first.toNat) * f.stride

/-- Begins the fetch of a request in an allocated slot (R17, R18). -/
def beginFetch (g : GlyphTable) (q : GlyphRequest) (n : SlotId) : GlyphTable :=
  let f := g.faces[q.key.face]
  { g.setSlot n { g.slots[n] with
      state := .filling, key := some q.key, waiters := [], defineWait := false } with
    fetch := some ⟨n, some q.who, glyphAddr f q.key.code, f.height * 2⟩ }

/-! ## The define commit (R25, R26) -/

/-- Completed NO_SLOT with the given detail B (R25, R26). -/
def noSlotAnswer (detailB : Half) : Answer := ⟨.noSlot, 0, detailB⟩

/-- The define commits into a RESIDENT or USER slot (R25). -/
def defineInPlace (g : GlyphTable) (n : SlotId) : GlyphTable × List Task :=
  let k := g.slots[n]
  let rows := g.staging.getD []
  if k.state = .user then (g.setSlot n { k with bitmap := bitmapOf rows }, [.glyphEnd .done])
  else if Config.userSlotLimit ≤ g.userCount then (g, [.glyphEnd (noSlotAnswer 1)])
  else ((g.setSlot n { k with bitmap := bitmapOf rows, state := .user }).unlist n, [.glyphEnd .done])

/-- A define allocation request whose key is unmapped when it is started (R26). -/
def defineAllocate (g : GlyphTable) (key : Key) : GlyphTable × List Task :=
  if Config.userSlotLimit ≤ g.userCount then (g, [.glyphEnd (noSlotAnswer 1)])
  else
    match g.allocate with
    | none => (g, [.glyphEnd (noSlotAnswer 0)])
    | some (n, g') =>
      (g'.setSlot n { g'.slots[n] with
        state := .user, key := some key, pins := 0, bitmap := bitmapOf (g.staging.getD []),
        waiters := [], defineWait := false }, [.glyphEnd .done])

/-! ## The fetch queue (R16) -/

/-- Starts one request that has been removed from the queue (R16). -/
def startRequest (g : GlyphTable) (q : GlyphRequest) : GlyphTable × List Task :=
  match g.slotOf q.key with
  | some n =>
    if g.slots[n].state = .filling then
      -- R16: this does not arise, since no fill is in progress; the requester waits as R14 and R25 say.
      if q.who = .define then (g.setSlot n { g.slots[n] with defineWait := true }, [])
      else (g.setSlot n { g.slots[n] with waiters := g.slots[n].waiters ++ [q.who] }, [])
    else if q.who = .define then g.defineInPlace n
    else (g.hit q.who n, [.answered q.who (.slot n)])
  | none =>
    if q.who = .define then g.defineAllocate q.key
    else
      match g.allocate with
      | none => (g, [.answered q.who .noSlot])
      | some (n, g') => (g'.beginFetch q n, [])

/-- Starts head requests until a fetch is in progress or `n` requests have been started. -/
def startRequests : Nat → GlyphTable → GlyphTable × List Task
  | 0, g => (g, [])
  | n + 1, g =>
    match g.fetch, g.queue with
    | none, q :: rest =>
      let (g', tasks) := startRequest { g with queue := rest } q
      let (g'', more) := startRequests n g'
      (g'', tasks ++ more)
    | _, _ => (g, [])

/-- Whenever no fetch is in progress and the queue is not empty, the head request is started (R16). -/
def startQueue (g : GlyphTable) : GlyphTable × List Task := startRequests g.queue.length g

/-- Places a request at the tail of the fetch queue (R15, R26). -/
def request (g : GlyphTable) (q : GlyphRequest) : GlyphTable × List Task :=
  startQueue { g with queue := g.queue ++ [q] }

/-! ## Lookup (R12 to R15) -/

/-- The code lies inside first..last code of the face (R12). -/
def inRange (f : Face) (code : Half) : Bool :=
  decide (f.first.toNat ≤ code.toNat) && decide (code.toNat ≤ f.last.toNat)

/-- A lookup whose settled key is mapped to slot `n` (R13, R14). -/
def lookupMapped (g : GlyphTable) (who : Requester) (n : SlotId) : GlyphTable × List Task :=
  if g.slots[n].state = .filling then
    (g.setSlot n { g.slots[n] with waiters := g.slots[n].waiters ++ [who] }, [])
  else (g.hit who n, [.answered who (.slot n)])

/-- A lookup of (face, code) (R12). -/
def lookup (g : GlyphTable) (who : Requester) (face : FaceId) (code : Half) : GlyphTable × List Task :=
  let f := g.faces[face]
  if f.state = .empty then (g, [.answered who .notSet])
  else
    match g.slotOf ⟨face, code⟩ with
    | some n => g.lookupMapped who n
    | none =>
      if inRange f code then g.request ⟨who, ⟨face, code⟩⟩
      else
        match g.slotOf ⟨face, f.substitute⟩ with
        | some n => g.lookupMapped who n
        | none =>
          if inRange f f.substitute then g.request ⟨who, ⟨face, f.substitute⟩⟩
          else (g, [.answered who .missing])

/-- A requester withdraws its lookup (R21): its request, its place in a waiter set, and its being answered
by the fetch in progress. -/
def withdraw (g : GlyphTable) (who : Requester) : GlyphTable :=
  { g with
    queue := g.queue.filter (fun q => q.who != who),
    slots := mapTable (fun k => { k with waiters := k.waiters.filter (· != who) }) g.slots,
    fetch := g.fetch.map (fun f => if f.who = some who then { f with who := none } else f) }

/-! ## The end of a fill (R19, R20) -/

/-- Answers requesters in order with slot `n` (R19). -/
def answerSlot (n : SlotId) : List Requester → GlyphTable → GlyphTable
  | [], g => g
  | who :: rest, g => answerSlot n rest (if pinning who then g.pin n else g)

/-- The requester of a fetch, if it has not withdrawn, and then the waiter set of its slot (R19, R20). -/
def fillAudience (g : GlyphTable) (f : GlyphFetch) : List Requester := f.who.toList ++ g.slots[f.slot].waiters

/-- A fill ends without error (R19). The next head request is started before the answered requesters act on
their answers (DESIGN CHOICE, log entry 37). -/
def filled (g : GlyphTable) (f : GlyphFetch) (bytes : List Byte) : GlyphTable × List Task :=
  let n := f.slot
  let audience := g.fillAudience f
  let wait := g.slots[n].defineWait
  let g1 := g.setSlot n { g.slots[n] with
    state := .resident, bitmap := bitmapOf (halvesOf (f.read.len / 2) bytes), waiters := [],
    defineWait := false }
  let g2 := answerSlot n audience g1
  let g3 := if g2.slots[n].pins = 0 then g2.listLast n else g2
  let (g4, defined) := if wait then g3.defineInPlace n else (g3, [])
  let (g5, started) := startQueue { g4 with fetch := none }
  (g5, audience.map (fun who => .answered who (.slot n)) ++ defined ++ started)

/-- A fill ends with a bus error (R20): a waiting define goes on as for an unmapped key. The next head request is
started before the answered requesters act, so before the unpins of an edit that the answer abandons (DESIGN
CHOICE, log entry 37). -/
def fillFailed (g : GlyphTable) (f : GlyphFetch) : GlyphTable × List Task :=
  let n := f.slot
  let k := g.slots[n]
  let audience := g.fillAudience f
  let g1 := g.setSlot n { k with state := .free, key := none, waiters := [], defineWait := false }
  let g2 := match k.defineWait, k.key with
    | true, some key => { g1 with queue := g1.queue ++ [GlyphRequest.mk .define key] }
    | _, _ => g1
  let (g3, started) := startQueue { g2 with fetch := none }
  (g3, audience.map (fun who => .answered who .busError) ++ started)

/-- The read of the fetch in progress ends (R18). -/
def fillEnds (g : GlyphTable) (read : ReadEnd) : GlyphTable × List Task :=
  match g.fetch, read with
  | none, _ => (g, [])
  | some f, .ok bytes => g.filled f bytes
  | some f, .busError => g.fillFailed f

/-! ## Faces (R2 to R4) -/

/-- The face is in use (R3). -/
def faceInUse (g : GlyphTable) (face : FaceId) : Bool :=
  g.slots.toList.any (fun k =>
    (k.key.map Key.face == some face) && (decide (0 < k.pins) || k.state == .filling)) ||
  g.queue.any fun q => q.key.face == face

/-- The slot is a RESIDENT or USER slot of the face. -/
def ofFace (face : FaceId) (k : Slot) : Bool :=
  (k.key.map Key.face == some face) && (k.state == .resident || k.state == .user)

/-- Frees every slot of a face (R3). -/
def freeFace (g : GlyphTable) (face : FaceId) : GlyphTable :=
  { g with
    reclaim := g.reclaim.filter (fun n => !ofFace face g.slots[n]),
    slots := mapTable (fun k => if ofFace face k then { k with state := .free, key := none } else k) g.slots }

/-- Writes a face record. -/
def setFace (g : GlyphTable) (face : FaceId) (f : Face) : GlyphTable :=
  { g with faces := update g.faces face f }

/-- The validation of a FACE_LOAD (R2). -/
def faceLoadValid (a : FaceLoadArgs) : Bool :=
  decide (a.face < 8) && decide (a.first.toNat ≤ a.last.toNat) &&
  decide (1 ≤ a.width ∧ a.width ≤ 16) && decide (1 ≤ a.height ∧ a.height ≤ 32) &&
  decide (1 ≤ a.advance ∧ a.advance ≤ 32) && decide (a.stride % 2 = 0 ∧ 2 * a.height ≤ a.stride) &&
  decide (a.base.toNat % 2 = 0) &&
  decide (a.base.toNat + (a.last.toNat - a.first.toNat) * a.stride + 2 * a.height - 1 ≤ Config.hostTop)

/-- The face record a FACE_LOAD writes (R3). -/
def loadedFace (a : FaceLoadArgs) : Face :=
  ⟨.loaded, a.base, a.first, a.last, a.substitute, a.width, a.height, a.advance, a.stride⟩

/-- FACE_LOAD (R2, R3): the table, and the face whose change is announced (R36) or the failing status. -/
def loadFace (g : GlyphTable) (a : FaceLoadArgs) : GlyphTable × Except Status FaceId :=
  if faceLoadValid a then
    match recordNumber 8 a.face with
    | none => (g, .error .badOperand)
    | some face =>
      if g.faces[face].state = .empty then (g.setFace face (loadedFace a), .ok face)
      else if g.faceInUse face then (g, .error .inUse)
      else ((g.freeFace face).setFace face (loadedFace a), .ok face)
  else (g, .error .badOperand)

/-- FACE_DROP (R4). -/
def dropFace (g : GlyphTable) (number : Nat) : GlyphTable × Except Status FaceId :=
  match recordNumber 8 number with
  | none => (g, .error .badOperand)
  | some face =>
    if g.faces[face].state = .empty then (g, .error .notSet)
    else if g.faceInUse face then (g, .error .inUse)
    else ((g.freeFace face).setFace face Face.none, .ok face)

/-! ## Preload, define and release (R22 to R27) -/

/-- The checks of GLYPH_PRELOAD (R22). R22 gives no order between an EMPTY face (NOT_SET) and codes that fail
(BAD_OPERAND); NOT_SET comes first (DESIGN CHOICE, log entry 31). -/
def preloadFails (g : GlyphTable) (number : Nat) (first last : Half) : Option Status :=
  match recordNumber 8 number with
  | none => some .badOperand
  | some face =>
    let f := g.faces[face]
    if f.state = .empty then some .notSet
    else if first.toNat ≤ last.toNat ∧ inRange f first ∧ inRange f last then none
    else some .badOperand

/-- The checks of GLYPH_DEFINE (R24). R24 gives no order between an EMPTY face (NOT_SET) and an odd bitmap
address (BAD_OPERAND); NOT_SET comes first (DESIGN CHOICE, log entry 32). -/
def defineFails (g : GlyphTable) (number : Nat) (addr : Word) : Option Status :=
  match recordNumber 8 number with
  | none => some .badOperand
  | some face =>
    if g.faces[face].state = .empty then some .notSet
    else if addr.toNat % 2 = 1 then some .badOperand
    else none

/-- The define commit, once its bitmap read has ended without error (R25, R26). -/
def defineCommit (g : GlyphTable) (key : Key) : GlyphTable × List Task :=
  match g.slotOf key with
  | some n =>
    if g.slots[n].state = .filling then (g.setSlot n { g.slots[n] with defineWait := true }, [])
    else g.defineInPlace n
  | none => g.request ⟨.define, key⟩

/-- GLYPH_RELEASE (R27). -/
def release (g : GlyphTable) (number : Nat) (code : Half) : GlyphTable × Status :=
  match recordNumber 8 number with
  | none => (g, .badOperand)
  | some face =>
    match g.slotOf ⟨face, code⟩ with
    | none => (g, .notSet)
    | some n =>
      let k := g.slots[n]
      if k.state ≠ .user then (g, .notSet)
      else if 0 < k.pins then (g, .inUse)
      else (g.setSlot n { k with state := .free, key := none }, .ok)

/-! ## Halt and reset (R29) -/

/-- The define wait of every slot is removed (R29). -/
def clearDefineWaits (g : GlyphTable) : GlyphTable :=
  { g with slots := mapTable (fun k => { k with defineWait := false }) g.slots }

/-- What the Glyph Table itself does on a halt or reset announcement (R29): its owned entries are abandoned,
a preload withdraws, a define's wait or request and its staging buffer go, and a bitmap read in flight will
end without effect. -/
def abandon (g : GlyphTable) : GlyphTable :=
  let g' := (g.withdraw .preload).withdraw .define |>.clearDefineWaits
  { g' with
    service := none, entries := [], staging := none, defineRead := none,
    lostReads := g'.lostReads ++ g.defineRead.toList }

end GlyphTable

end Sys2Proof.Machine
end

