-- ==== Sys2Proof/Machine/Blocks.lean ====
section
/-! DEFINITION. The four blocks that act on one another within one handling: the Glyph Table, the Lane Unit,
the Raster Engine and the Surface Table, with the panel geometry they read and the answers they give. -/

namespace Sys2Proof.Machine

/-- An answer given in a handling; `ended` marks the end of an owned entry of the Glyph Table, whose answers keep
their order (R5). -/
structure GivenAnswer where
  ring : RingId
  answer : Answer
  ended : Bool
  deriving DecidableEq, Repr

/-- The four blocks during a handling; `outbox` is the answers given so far, oldest first. -/
structure Blocks where
  glyph : GlyphTable
  lane : LaneUnit
  raster : RasterEngine
  surfaces : Vector Surface 16
  panelWidth : Nat
  panelHeight : Nat
  outbox : List GivenAnswer
  deriving DecidableEq, Repr

/-- The blocks of a state, before they have answered anything. -/
def State.blocks (s : State) : Blocks :=
  ⟨s.glyph, s.lane, s.raster, s.surfaces, s.presentation.panelWidth, s.presentation.panelHeight, []⟩

/-- Gives the answers of a handling to the Intake Unit, oldest first. -/
def State.deliver : List GivenAnswer → State → State
  | [], s => s
  | x :: rest, s =>
    State.deliver rest (if x.ended then s.giveGlyphAnswer x.ring x.answer else s.giveAnswer x.ring x.answer)

/-- The state after a handling that left the blocks as `b`. -/
def State.putBlocks (s : State) (b : Blocks) : State :=
  State.deliver b.outbox
    ((((s.withGlyph b.glyph).withLane b.lane).withRaster b.raster).withSurfaces b.surfaces)

namespace Blocks

/-- An owner answers the entry of ring `r`. -/
def answer (b : Blocks) (r : RingId) (a : Answer) : Blocks := { b with outbox := b.outbox ++ [⟨r, a, false⟩] }

/-- The Glyph Table answers the owned entry of ring `r` that it has ended (R5). -/
def answerEnded (b : Blocks) (r : RingId) (a : Answer) : Blocks := { b with outbox := b.outbox ++ [⟨r, a, true⟩] }

/-- Replaces the Glyph Table by the outcome of one of its operations, whose tasks remain to be done. -/
def onGlyph (b : Blocks) (x : GlyphTable × List Task) : Blocks × List Task := ({ b with glyph := x.1 }, x.2)

/-- The lane record `l`. -/
def laneAt (b : Blocks) (l : LaneId) : Lane := b.lane.lanes[l]

/-- Replaces lane record `l`. -/
def setLane (b : Blocks) (l : LaneId) (k : Lane) : Blocks :=
  { b with lane := { b.lane with lanes := update b.lane.lanes l k } }

/-- A surface named by an entry; a number that names none is an UNSET surface. -/
def surface (b : Blocks) (n : Option SurfaceId) : Surface := n.elim Surface.none (fun i => b.surfaces[i])

/-- Sets or clears the raster-use mark of a named surface (R98). -/
def setMark (b : Blocks) (n : Option SurfaceId) (mark : Bool) : Blocks :=
  match n with
  | some i => { b with surfaces := update b.surfaces i { b.surfaces[i] with mark := mark } }
  | none => b

end Blocks

end Sys2Proof.Machine
end

