-- ==== Sys2Proof/Machine/LaneText.lean ====
section
/-! DEFINITION. The Lane Unit's entries (chapter 2, and sections 3.1, 3.4 and 3.5): text width, cycle length
and stops; LANE_SET, LANE_TEXT with its staging and commits, LANE_VIEW and LANE_MOTION. -/

namespace Sys2Proof.Machine

/-! ## Text width, cycle length, stops (R54, R55) -/

/-- The text width W (R54). -/
def Lane.textWidth (k : Lane) (advance : Nat) : Nat := k.cells.length * advance

/-- The cycle length L (R54). -/
def Lane.cycle (k : Lane) (advance : Nat) : Nat := k.textWidth advance + k.settings.gap

/-- The stops of a STEP lane, ascending (R55). -/
def Lane.stops (k : Lane) (advance : Nat) : List Nat :=
  ((List.range (k.cells.length + 1)).map (· * advance)).filter (· < k.cycle advance)

/-- The greatest of a list of stops, 0 where there is none. -/
def greatest (l : List Nat) : Nat := l.foldl max 0

/-- The next stop from offset `p` (R55). -/
def Lane.nextStop (k : Lane) (advance p : Nat) : Nat :=
  match k.settings.direction with
  | .leftward => ((k.stops advance).filter (p < ·)).headD 0
  | .rightward =>
    if p = 0 then greatest (k.stops advance) else greatest ((k.stops advance).filter (· < p))

/-- An offset is in the range of Table 16. -/
def Lane.offsetValid (k : Lane) (advance p : Nat) : Bool :=
  match k.settings.mode with
  | .fixed => decide (p ≤ k.textWidth advance)
  | .marquee => if k.cycle advance = 0 then p == 0 else decide (p < k.cycle advance)
  | .step => if k.cycle advance = 0 then p == 0 else (k.stops advance).contains p

/-- The offset after an edit commit or a face change (R66). -/
def Lane.adjustedOffset (k : Lane) (advance : Nat) : Nat :=
  match k.settings.mode with
  | .fixed => min k.offset (k.textWidth advance)
  | .marquee => if k.cycle advance = 0 then 0 else k.offset % k.cycle advance
  | .step =>
    if k.cycle advance = 0 then 0
    else greatest ((k.stops advance).filter (· ≤ k.offset % k.cycle advance))

/-- Adjusts the offset (R66). -/
def Lane.adjust (k : Lane) (advance : Nat) : Lane := { k with offset := k.adjustedOffset advance }

/-- The number of MISSING cells. -/
def missingCount (cells : List TextCell) : Nat := cells.countP fun c => c.slot.isNone

/-! ## LANE_SET (R33 to R35) -/

/-- The lane and the settings a LANE_SET names, where it passes the checks of R33. -/
def laneSettingsOf (a : LaneSetArgs) (panelWidth panelHeight : Nat) : Option (LaneId × LaneSettings) :=
  match recordNumber 8 a.lane, recordNumber 8 a.face, a.mode, a.direction, a.events, a.signal with
  | some lane, some face, some mode, some direction, some events, some signal =>
    if 0 < a.w ∧ 0 < a.h ∧ a.x + a.w ≤ panelWidth ∧ a.y + a.h ≤ panelHeight ∧ a.verticalOffset ≤ 31 ∧
        (1 ≤ a.interval ∧ a.interval ≤ 64) ∧ (1 ≤ a.hold ∧ a.hold ≤ 255) ∧ a.gap ≤ 1023 then
      some (lane, ⟨a.x, a.y, a.w, a.h, face, a.ink, a.paper, a.altInk, a.paperClear, a.verticalOffset, mode,
        direction, a.interval, a.hold, a.gap, a.repeats, events, signal⟩)
    else none
  | _, _, _, _, _, _ => none

/-- A lane that a valid LANE_SET has been applied to: R34 on an UNSET lane, R35 on a SET one. -/
def Lane.withSettings (k : Lane) (v : LaneSettings) : Lane :=
  match k.state with
  | .unset => { Lane.none with state := .set, settings := v }
  | .set => { k with settings := v, motion := .still, offset := 0, passCount := 0, countdown := 0 }

namespace Blocks

/-- The advance of a lane's face as it stands (R54). -/
def advanceOf (b : Blocks) (k : Lane) : Nat := b.glyph.faces[k.settings.face].advance

/-- A lane entry that completes or fails when taken: it answers, and the next entry is taken (R32). -/
def laneAnswer (b : Blocks) (r : RingId) (a : Answer) : Blocks × List Task := (b.answer r a, [.laneTake])

/-- The failing status of a LANE_SET, or what it sets (R33, R35). -/
def checkLaneSet (b : Blocks) (a : LaneSetArgs) : Except Status (LaneId × LaneSettings) :=
  match laneSettingsOf a b.panelWidth b.panelHeight with
  | none => .error .badOperand
  | some (l, v) =>
    if b.glyph.faces[v.face].state = .empty then .error .notSet
    else if (b.laneAt l).state = .set ∧ (b.laneAt l).cells ≠ [] ∧ (b.laneAt l).settings.face ≠ v.face then
      .error .inUse
    else .ok (l, v)

/-- LANE_SET (R33 to R35). -/
def laneSet (b : Blocks) (r : RingId) (e : WorkEntry) : Blocks × List Task :=
  match b.checkLaneSet e.laneSetArgs with
  | .error status => b.laneAnswer r (.failed status)
  | .ok (l, v) => (b.setLane l ((b.laneAt l).withSettings v)).laneAnswer r .done

/-- The lane an entry names, where its number is one and the lane is SET (R37, R63, section 2.5). -/
def checkLane (b : Blocks) (number : Nat) : Except Status LaneId :=
  match recordNumber 8 number with
  | none => .error .badOperand
  | some l => if (b.laneAt l).state = .unset then .error .notSet else .ok l

/-! ## Commits and the abandoning of an edit (R41 to R44, R50) -/

/-- Commits staged cells over or into the list from the cursor (R42, R43): the lane, and the cells that leave. -/
def placeCells (k : Lane) (edit : EditKind) (cells : List TextCell) : Lane × List TextCell :=
  let s := cells.length
  match edit with
  | .write =>
    ({ k with cells := k.cells.take k.cursor ++ cells ++ k.cells.drop (k.cursor + s), cursor := k.cursor + s },
      (k.cells.drop k.cursor).take s)
  | .insert =>
    ({ k with cells := k.cells.take k.cursor ++ cells ++ k.cells.drop k.cursor, cursor := k.cursor + s }, [])
  | .refresh => (k, [])

/-- Takes the slots found by a REFRESH into the cells at the recorded positions (R50). -/
def refreshCells : List StagedCell → List TextCell → List TextCell
  | [], cells => cells
  | c :: rest, cells =>
    refreshCells rest <|
      match c.cell.slot, cells[c.position]? with
      | some n, some old => cells.set c.position { old with slot := some n }
      | _, _ => cells

/-- The answer of an edit that drops and misses cells (R44, R50). -/
def editAnswer (dropped missing : Nat) : Answer :=
  if dropped = 0 ∧ missing = 0 then .done else .partially dropped missing

/-- Every staged cell has been answered: the edit commits (R42, R43, R50) and answers (R44, R50). -/
def commitEdit (b : Blocks) (v : LaneService) : Blocks × List Task :=
  let k := b.laneAt v.lane
  let cells := b.lane.staging.map StagedCell.cell
  let b' := { b with lane := { b.lane with staging := [], service := none } }
  match v.edit with
  | .refresh =>
    let k' := { k with cells := refreshCells b.lane.staging k.cells }
    (b'.setLane v.lane k').laneAnswer v.ring (editAnswer 0 (missingCount k'.cells))
  | edit =>
    let (k', leaving) := placeCells k edit cells
    let b'' := b'.setLane v.lane (k'.adjust (b.advanceOf k))
    ({ b'' with glyph := b''.glyph.unpinAll (leaving.map TextCell.slot) }).laneAnswer v.ring
      (editAnswer v.dropped (missingCount cells))

/-- Withdraws the lookup outstanding, unpins the staged cells in order and empties the staging list (R41);
a cell-list read still in flight will end without effect. -/
def dropStaging (b : Blocks) (v : LaneService) : Blocks :=
  let g := if v.current.isSome then b.glyph.withdraw .laneEdit else b.glyph
  { b with
    glyph := g.unpinAll (b.lane.staging.map fun c => c.cell.slot),
    lane := { b.lane with
      staging := [], service := none, lostReads := b.lane.lostReads ++ v.read.toList } }

/-- The edit in service is abandoned on a bus error (R41). -/
def abandonEdit (b : Blocks) (v : LaneService) : Blocks × List Task :=
  (b.dropStaging v).laneAnswer v.ring (.failed .busError)

/-! ## Staging (R38 to R40, R49) -/

/-- The edit goes on: the next record is looked up when the one before it has been answered, and the edit
commits when every record has been answered and the read has ended (R39). -/
def stepEdit (b : Blocks) (v : LaneService) : Blocks × List Task :=
  match v.current, v.todo with
  | some _, _ => ({ b with lane := { b.lane with service := some v } }, [])
  | none, c :: rest =>
    let v' := { v with todo := rest, current := some c }
    { b with lane := { b.lane with service := some v' } }.onGlyph
      (b.glyph.lookup .laneEdit (b.laneAt v.lane).settings.face c.cell.code)
  | none, [] =>
    if v.undelivered = 0 ∧ v.read.isNone then b.commitEdit v
    else ({ b with lane := { b.lane with service := some v } }, [])

/-- The slot a lookup answer gives a staged cell; `none` for MISSING (R40). -/
def stagedSlot : LookupAnswer → Option SlotId
  | .slot n => some n
  | .notSet | .missing | .noSlot | .busError => none

/-- The lane-edit requester takes the answer of its lookup (R40). -/
def laneAnswered (b : Blocks) (a : LookupAnswer) : Blocks × List Task :=
  match b.lane.service with
  | none => (b, [])
  | some v =>
    match v.current with
    | none => (b, [])
    | some c =>
      if a = .busError then b.abandonEdit { v with current := none }
      else
        let staged := { c with cell := { c.cell with slot := stagedSlot a } }
        ({ b with lane := { b.lane with staging := b.lane.staging ++ [staged] } }).stepEdit
          { v with current := none }

/-- The number of cells an edit stores (R38). -/
def storedCells (edit : EditKind) (k : Lane) (n : Nat) : Nat :=
  match edit with
  | .write => min n (Config.laneCells - k.cursor)
  | .insert | .refresh => min n (Config.laneCells - k.cells.length)

/-- WRITE and INSERT (R37, R38): the checks, and the start of the cell-list read. -/
def startEdit (b : Blocks) (edit : EditKind) (r : RingId) (e : WorkEntry) : Blocks × List Task :=
  match b.checkLane (e.u8 0x04) with
  | .error status => b.laneAnswer r (.failed status)
  | .ok l =>
    let n := e.u16 0x06
    let addr := (e.word 0x08).toNat
    let k := b.laneAt l
    if n < 1 ∨ 128 < n ∨ addr % 4 ≠ 0 then b.laneAnswer r (.failed .badOperand)
    else if b.glyph.faces[k.settings.face].state = .empty then b.laneAnswer r (.failed .notSet)
    else
      let stored := storedCells edit k n
      if stored = 0 then
        (b.setLane l (k.adjust (b.advanceOf k))).laneAnswer r (.partially n 0)
      else
        ({ b with lane := { b.lane with
            staging := [],
            service := some ⟨r, l, edit, n - stored, [], stored, none, some ⟨addr, stored * 4⟩⟩ } }, [])

/-- The MISSING cells of a list, with their positions counted from `k` (R49). -/
def missingCells : Nat → List TextCell → List StagedCell
  | _, [] => []
  | k, c :: rest => if c.slot.isNone then ⟨c, k⟩ :: missingCells (k + 1) rest else missingCells (k + 1) rest

/-- REFRESH (R49). -/
def startRefresh (b : Blocks) (r : RingId) (e : WorkEntry) : Blocks × List Task :=
  match b.checkLane (e.u8 0x04) with
  | .error status => b.laneAnswer r (.failed status)
  | .ok l =>
    let k := b.laneAt l
    if b.glyph.faces[k.settings.face].state = .empty then b.laneAnswer r (.failed .notSet)
    else
      ({ b with lane := { b.lane with staging := [] } }).stepEdit
        ⟨r, l, .refresh, 0, missingCells 0 k.cells, 0, none, none⟩

/-- The cell-list read of the edit in service goes on or ends (R39, R41). -/
def cellListRead (b : Blocks) (read : CellRead) : Blocks × List Task :=
  match b.lane.service with
  | none => (b, [])
  | some v =>
    if v.read.isNone then (b, [])
    else
      match read with
      | .delivers bytes =>
        let cells := cellsOf v.undelivered bytes
        b.stepEdit { v with
          todo := v.todo ++ cells.map (fun c => ⟨c, 0⟩), undelivered := v.undelivered - cells.length }
      | .ends bytes =>
        let cells := (List.range v.undelivered).map (cellAt bytes)
        b.stepEdit { v with todo := v.todo ++ cells.map (fun c => ⟨c, 0⟩), undelivered := 0, read := none }
      | .busError => b.abandonEdit { v with read := none }

/-! ## DELETE, CLEAR, CURSOR (R45 to R47) -/

/-- Replaces a lane and unpins the slots of the cells that leave it, in order; the offset is adjusted (R66). -/
def commitLane (b : Blocks) (l : LaneId) (k : Lane) (leaving : List TextCell) : Blocks :=
  let b' := b.setLane l (k.adjust (b.advanceOf k))
  { b' with glyph := b'.glyph.unpinAll (leaving.map TextCell.slot) }

/-- DELETE (R45). -/
def laneDelete (b : Blocks) (r : RingId) (e : WorkEntry) : Blocks × List Task :=
  match b.checkLane (e.u8 0x04) with
  | .error status => b.laneAnswer r (.failed status)
  | .ok l =>
    let n := e.u16 0x06
    let k := b.laneAt l
    if n < 1 ∨ 128 < n then b.laneAnswer r (.failed .badOperand)
    else
      (b.commitLane l { k with cells := k.cells.take k.cursor ++ k.cells.drop (k.cursor + n) }
        ((k.cells.drop k.cursor).take n)).laneAnswer r .done

/-- CLEAR (R46). -/
def laneClear (b : Blocks) (r : RingId) (e : WorkEntry) : Blocks × List Task :=
  match b.checkLane (e.u8 0x04) with
  | .error status => b.laneAnswer r (.failed status)
  | .ok l =>
    let k := b.laneAt l
    (b.commitLane l { k with cells := [], cursor := 0 } k.cells).laneAnswer r .done

/-- CURSOR (R47). -/
def laneCursor (b : Blocks) (r : RingId) (e : WorkEntry) : Blocks × List Task :=
  match b.checkLane (e.u8 0x04) with
  | .error status => b.laneAnswer r (.failed status)
  | .ok l =>
    let p := e.u16 0x06
    let k := b.laneAt l
    if k.cells.length < p then b.laneAnswer r (.failed .badOperand)
    else (b.setLane l { k with cursor := p }).laneAnswer r .done

/-- A LANE_TEXT entry, by its operation (R37). -/
def laneText (b : Blocks) (r : RingId) (e : WorkEntry) : Blocks × List Task :=
  match e.operation with
  | 0 => b.startEdit .write r e
  | 1 => b.startEdit .insert r e
  | 2 => b.laneDelete r e
  | 3 => b.laneClear r e
  | 4 => b.laneCursor r e
  | _ => b.laneAnswer r (.failed .badOperand)

/-! ## LANE_VIEW (R48 to R51) -/

/-- SHOW and HIDE (R48). -/
def laneVisibility (b : Blocks) (v : Visibility) (r : RingId) (e : WorkEntry) : Blocks × List Task :=
  match b.checkLane (e.u8 0x04) with
  | .error status => b.laneAnswer r (.failed status)
  | .ok l => (b.setLane l { b.laneAt l with visibility := v }).laneAnswer r .done

/-- RELEASE (R51). -/
def laneRelease (b : Blocks) (r : RingId) (e : WorkEntry) : Blocks × List Task :=
  match b.checkLane (e.u8 0x04) with
  | .error status => b.laneAnswer r (.failed status)
  | .ok l =>
    let b' := b.setLane l Lane.none
    ({ b' with glyph := b'.glyph.unpinAll ((b.laneAt l).cells.map TextCell.slot) }).laneAnswer r .done

/-- A LANE_VIEW entry, by its operation (section 2.5). -/
def laneView (b : Blocks) (r : RingId) (e : WorkEntry) : Blocks × List Task :=
  match e.operation with
  | 0 => b.laneVisibility .shown r e
  | 1 => b.laneVisibility .hidden r e
  | 2 => b.startRefresh r e
  | 3 => b.laneRelease r e
  | _ => b.laneAnswer r (.failed .badOperand)

end Blocks

/-! ## LANE_MOTION (R63 to R65) -/

/-- The countdown a lane's mode loads (section 3.2). -/
def Lane.loadedCountdown (k : Lane) : Nat :=
  match k.settings.mode with
  | .fixed => 0
  | .marquee => k.settings.interval
  | .step => k.settings.hold

/-- START (Table 17). -/
def Lane.start (k : Lane) : Lane :=
  match k.motion with
  | .still => { k with motion := .moving, passCount := 0, countdown := k.loadedCountdown }
  | .paused | .moving => { k with motion := .moving }

/-- PAUSE (Table 17). -/
def Lane.pause (k : Lane) : Lane :=
  match k.motion with
  | .moving => { k with motion := .paused }
  | .still | .paused => k

/-- RESUME (Table 17). -/
def Lane.resume (k : Lane) : Lane :=
  match k.motion with
  | .paused => { k with motion := .moving }
  | .still | .moving => k

/-- STOP (Table 17). -/
def Lane.stop (k : Lane) : Lane := { k with motion := .still, offset := 0, countdown := 0 }

namespace Blocks

/-- A LANE_MOTION operation that `allowed` admits and `f` carries out (R63, R64, R65). -/
def laneMove (b : Blocks) (allowed : Lane → Bool) (f : Lane → Lane) (r : RingId) (e : WorkEntry) :
    Blocks × List Task :=
  match b.checkLane (e.u8 0x04) with
  | .error status => b.laneAnswer r (.failed status)
  | .ok l =>
    if allowed (b.laneAt l) then (b.setLane l (f (b.laneAt l))).laneAnswer r .done
    else b.laneAnswer r (.failed .badOperand)

/-- START, refused in FIXED mode (R63, R64). -/
def laneStart (b : Blocks) (r : RingId) (e : WorkEntry) : Blocks × List Task :=
  b.laneMove (fun k => k.settings.mode != .fixed) Lane.start r e

/-- PAUSE (R64). -/
def lanePause (b : Blocks) (r : RingId) (e : WorkEntry) : Blocks × List Task :=
  b.laneMove (fun _ => true) Lane.pause r e

/-- RESUME (R64). -/
def laneResume (b : Blocks) (r : RingId) (e : WorkEntry) : Blocks × List Task :=
  b.laneMove (fun _ => true) Lane.resume r e

/-- STOP (R64). -/
def laneStop (b : Blocks) (r : RingId) (e : WorkEntry) : Blocks × List Task :=
  b.laneMove (fun _ => true) Lane.stop r e

/-- SET_OFFSET (R63, R65). -/
def laneSetOffset (b : Blocks) (r : RingId) (e : WorkEntry) : Blocks × List Task :=
  b.laneMove (fun k => k.offsetValid (b.advanceOf k) (e.u16 0x06))
    (fun k => { k with offset := e.u16 0x06 }) r e

/-- A LANE_MOTION entry, by its operation (R63). -/
def laneMotion (b : Blocks) (r : RingId) (e : WorkEntry) : Blocks × List Task :=
  match e.operation with
  | 0 => b.laneStart r e
  | 1 => b.lanePause r e
  | 2 => b.laneResume r e
  | 3 => b.laneStop r e
  | 4 => b.laneSetOffset r e
  | _ => b.laneAnswer r (.failed .badOperand)

/-! ## Serving lane entries (R32), face changes (R36), halt (R53) -/

/-- The Lane Unit serves an entry it has taken. -/
def serveLane (b : Blocks) (r : RingId) (e : WorkEntry) : Blocks × List Task :=
  match e.kind with
  | some .laneSet => b.laneSet r e
  | some .laneText => b.laneText r e
  | some .laneView => b.laneView r e
  | some .laneMotion => b.laneMotion r e
  | _ => (b, [])

/-- The head of the entry queue is taken when no entry is in service (R32). -/
def takeLane (b : Blocks) : Blocks × List Task :=
  match b.lane.service, b.lane.entries with
  | none, e :: rest => ({ b with lane := { b.lane with entries := rest } }).serveLane e.ring e.entry
  | _, _ => (b, [])

/-- An entry handed over is taken at once, or joins the entry queue (R32). -/
def arriveLane (b : Blocks) (r : RingId) (e : WorkEntry) : Blocks × List Task :=
  if b.lane.service.isNone then b.serveLane r e
  else ({ b with lane := { b.lane with entries := b.lane.entries ++ [⟨r, e⟩] } }, [])

/-- The Lane Unit takes a face change into the lanes of that face (R36). -/
def announceFace (b : Blocks) (face : FaceId) : Blocks :=
  { b with lane := { b.lane with
    lanes := mapTable
      (fun k => if k.state = .set ∧ k.settings.face = face then k.adjust b.glyph.faces[face].advance else k)
      b.lane.lanes } }

/-- What the Lane Unit does on a halt or reset announcement (R53). -/
def haltLane (b : Blocks) : Blocks :=
  let b' := match b.lane.service with
    | some v => b.dropStaging v
    | none => b
  { b' with lane := { b'.lane with entries := [] } }

end Blocks

end Sys2Proof.Machine
end

