-- ==== Sys2Proof/Machine/Raster.lean ====
section
/-! DEFINITION. The Raster Engine (chapter 6) with the drawing rules of chapter 5: pixel addressing, the
scissor, validation, mixes, the order of drawing, the end of an operation, TEXT stamps, claims and halt. -/

namespace Sys2Proof.Machine

/-! ## Pixels in memory (R91, R92, R99) -/

/-- The bits of a pixel value of the given depth: M = 2^depth − 1 (R111). -/
def depthMask (depth : Nat) : Byte := BitVec.ofNat 8 (2 ^ depth - 1)

/-- Row bytes (Table 22, note 1). -/
def Surface.rowBytes (k : Surface) : Nat := (k.width * k.depth + 7) / 8

/-- The byte that holds pixel (x, y) (R91). -/
def Surface.pixelAddr (k : Surface) (x y : Nat) : Nat := k.base.toNat + y * k.pitch + x * k.depth / 8

/-- How far the least significant bit of pixel column `x` lies from bit 0 of its byte (R91). -/
def pixelShift (depth x : Nat) : Nat := 8 - depth - x * depth % 8

/-- The value of pixel column `x` in its byte. -/
def pixelOf (depth x : Nat) (byte : Byte) : Byte := (byte >>> pixelShift depth x) &&& depthMask depth

/-- A byte with the bits of pixel column `x` replaced (R92). -/
def insertPixel (depth x : Nat) (byte value : Byte) : Byte :=
  (byte &&& ~~~(depthMask depth <<< pixelShift depth x)) |||
    ((value &&& depthMask depth) <<< pixelShift depth x)

/-! ## Mixes (R111) -/

/-- The mix reads the destination pixel (Table 27). -/
def Mix.readsDestination : Mix → Bool
  | .replace => false
  | .and | .or | .xor | .invert | .addSat => true

/-- The value a mix writes (Table 27), for pixel values `s` and `d` of the given depth. -/
def Mix.value (m : Mix) (depth : Nat) (s d : Byte) : Byte :=
  match m with
  | .replace => s
  | .and => s &&& d
  | .or => s ||| d
  | .xor => s ^^^ d
  | .invert => depthMask depth - d
  | .addSat => BitVec.ofNat 8 (min (s.toNat + d.toNat) (2 ^ depth - 1))

/-! ## The scissor (R101) -/

/-- The destination pixels an operation admits: columns x0..x0 + columns − 1 by rows y0..y0 + rows − 1. -/
structure Area where
  x0 : Nat
  y0 : Nat
  columns : Nat
  rows : Nat
  deriving DecidableEq, Repr

/-- What the clip admits of the rectangle at (dx, dy) of `w` by `h` pixels (R101). -/
def admitted (clip : Option Clip) (dx dy : Int) (w h : Nat) : Area :=
  match clip with
  | none => ⟨0, 0, 0, 0⟩
  | some c =>
    let left := max dx c.x0
    let right := min (dx + w - 1) c.x1
    let top := max dy c.y0
    let bottom := min (dy + h - 1) c.y1
    ⟨left.toNat, top.toNat, (right - left + 1).toNat, (bottom - top + 1).toNat⟩

/-! ## The rectangle being worked through -/

/-- What the drawing of one rectangle rests on: the operands, the two surfaces as they stand (their marks bar
changes, R98), the rectangle's corner, the admitted pixels, the order of R119, and the stamp's bitmap, absent
for a missing glyph and for the kinds other than TEXT, with the columns of it that hold glyph pixels. -/
structure Work where
  args : RasterArgs
  mix : Mix
  dst : Surface
  src : Surface
  dx : Int
  dy : Int
  area : Area
  rightToLeft : Bool
  bottomToTop : Bool
  bitmap : Option Bitmap
  glyphColumns : Nat
  deriving DecidableEq, Repr

namespace Work

/-- The destination column at place `c` of the working order (R113, R119). -/
def column (k : Work) (c : Nat) : Nat :=
  if k.rightToLeft then k.area.x0 + (k.area.columns - 1 - c) else k.area.x0 + c

/-- The destination row at place `r` of the working order (R113, R119). -/
def row (k : Work) (r : Nat) : Nat :=
  if k.bottomToTop then k.area.y0 + (k.area.rows - 1 - r) else k.area.y0 + r

/-- The source column of destination column `x` (R102, R103). -/
def sourceColumn (k : Work) (x : Nat) : Nat :=
  let u := k.args.sx + (x - k.dx).toNat
  if k.args.wrap = some true then u % k.src.width else u

/-- The source row of destination row `y` (R102, R103). -/
def sourceRow (k : Work) (y : Nat) : Nat :=
  let v := k.args.sy + (y - k.dy).toNat
  if k.args.wrap = some true then v % k.src.height else v

/-- A colour operand in the destination depth (R99). -/
def colour (k : Work) (c : Byte) : Byte := c &&& depthMask k.dst.depth

/-- The bitmap row of a stamp that covers the row at place `r` (R124); 0 where there is none. -/
def rowBits (k : Work) (r : Nat) : Half :=
  (k.bitmap.map fun m => m.toArray.getD ((k.row r : Int) - k.dy).toNat 0).getD 0

/-- The pixel of a stamp at place `c` has the ink role (R124). -/
def inkRole (k : Work) (bits : Half) (c : Nat) : Bool :=
  let u := ((k.column c : Int) - k.dx).toNat
  k.bitmap.isSome && decide (u < k.glyphColumns) && bits.getMsbD u

/-- The pixel at place `c` takes some transfer: under paper clear, a paper-role pixel of a stamp takes none
(R112, step 2; R124). -/
def wanted (k : Work) (bits : Half) (c : Nat) : Bool :=
  match k.args.kind with
  | .text => k.inkRole bits c || k.args.paperClear != some true
  | .fill | .copy | .expand => true

/-- The first place at or after `c` of a row whose pixel takes a transfer. -/
def seekColumn (k : Work) (bits : Half) (c : Nat) : Option Nat :=
  (List.range k.area.columns).find? fun x => decide (c ≤ x) && k.wanted bits x

/-- The first place whose pixel takes a transfer, in the `n` rows from row place `r`. -/
def seekRow (k : Work) : Nat → Nat → Option (Nat × Nat)
  | 0, _ => none
  | n + 1, r =>
    match k.seekColumn (k.rowBits r) 0 with
    | some c => some (r, c)
    | none => seekRow k n (r + 1)

/-- The destination transfer of a pixel that is to be written from source value `s` (R112, steps 3 and 4). -/
def destTransfer (k : Work) (r c : Nat) (s : Byte) : RasterTransfer :=
  { kind := if k.mix.readsDestination || decide (k.dst.depth < 8) then .destRead s else .destWrite s,
    space := k.dst.space, addr := k.dst.pixelAddr (k.column c) (k.row r) }

/-- The first transfer of the pixel at place (r, c) (R112). -/
def firstTransfer (k : Work) (bits : Half) (r c : Nat) : RasterTransfer :=
  match k.args.kind with
  | .fill => k.destTransfer r c (k.colour k.args.ink)
  | .copy | .expand =>
    { kind := .sourceRead, space := k.src.space,
      addr := k.src.pixelAddr (k.sourceColumn (k.column c)) (k.sourceRow (k.row r)) }
  | .text => k.destTransfer r c (k.colour (if k.inkRole bits c then k.args.ink else k.args.paper))

/-- The source value that the source byte read for place `c` gives, `none` where the pixel is not written
(R112 step 2, R118, R120). -/
def sourceValue (k : Work) (c : Nat) (byte : Byte) : Option Byte :=
  let p := pixelOf k.src.depth (k.sourceColumn (k.column c)) byte
  match k.args.kind with
  | .copy => if k.args.keyed = some true ∧ p = k.colour k.args.ink then none else some p
  | .expand =>
    if p = 1 then some (k.colour k.args.ink)
    else if k.args.paperClear = some true then none
    else some (k.colour k.args.paper)
  | .fill | .text => none

/-- The destination byte that is written for place `c`, from the byte read and the source value (R112). -/
def writtenByte (k : Work) (c : Nat) (s byte : Byte) : Byte :=
  let x := k.column c
  insertPixel k.dst.depth x byte (k.mix.value k.dst.depth s (pixelOf k.dst.depth x byte))

end Work

/-! ## Validation (R109, R110) -/

/-- The kind names a source surface. -/
def RasterKind.hasSource : RasterKind → Bool
  | .copy | .expand => true
  | .fill | .text => false

/-- Step 1 of R109. -/
def RasterArgs.operandsValid (a : RasterArgs) : Bool :=
  a.dst.isSome && (a.src.isSome || !a.kind.hasSource) && a.mix.isSome && a.wrap.isSome && a.keyed.isSome &&
  a.paperClear.isSome &&
  (a.kind != .text ||
    (a.face.isSome && decide (1 ≤ a.count ∧ a.count ≤ 256) && decide (a.listAddr.toNat % 2 = 0)))

/-- A coordinate lies in −4096..8191 (R100). -/
def inDrawingRange (c : Int) : Bool := decide (-4096 ≤ c) && decide (c ≤ 8191)

/-- Step 3 of R109, the drawing coordinate range (R100). -/
def RasterArgs.coordinatesValid (a : RasterArgs) : Bool :=
  match a.kind with
  | .text => inDrawingRange a.dx && inDrawingRange a.dy
  | .fill | .copy | .expand =>
    decide (1 ≤ a.w ∧ a.w ≤ 4096) && decide (1 ≤ a.h ∧ a.h ≤ 4096) &&
    inDrawingRange a.dx && inDrawingRange (a.dx + a.w - 1) &&
    inDrawingRange a.dy && inDrawingRange (a.dy + a.h - 1)

/-- The source checks of R102 and R103. -/
def RasterArgs.sourceValid (a : RasterArgs) (src : Surface) : Bool :=
  if a.wrap = some true then decide (a.sx < src.width) && decide (a.sy < src.height)
  else decide (a.sx + a.w ≤ src.width) && decide (a.sy + a.h ≤ src.height)

/-- Step 4 of R109, the checks of Table 28. -/
def RasterArgs.kindValid (a : RasterArgs) (dst src : Surface) : Bool :=
  let tiling := !(a.wrap == some true && a.src == a.dst) && a.sourceValid src
  match a.kind with
  | .fill | .text => true
  | .copy => src.depth == dst.depth && tiling
  | .expand => src.depth == 1 && tiling

namespace Blocks

/-- The failing status of a raster entry (R109), if one. -/
def rasterFails (b : Blocks) (a : RasterArgs) : Option Status :=
  let dst := b.surface a.dst
  let src := b.surface a.src
  let faceEmpty := (a.face.map fun f => b.glyph.faces[f].state == .empty).getD true
  if !a.operandsValid then some .badOperand
  else if dst.state = .unset ∨ (a.kind.hasSource ∧ src.state = .unset) ∨ (a.kind = .text ∧ faceEmpty) then
    some .notSet
  else if !a.coordinatesValid then some .badOperand
  else if !a.kindValid dst src then some .badOperand
  else none

/-! ## The end of an operation (R114, R115, R126) -/

/-- The operation in service ends: its marks are cleared, its state is emptied, its entry is answered and the
next claim is taken (R115). -/
def endOperation (b : Blocks) (c : Claim) (a : Answer) : Blocks × List Task :=
  let args := c.entry.rasterArgs
  let b' := (b.setMark args.dst false).setMark args.src false
  (({ b' with raster := { RasterEngine.idle with
      claims := b.raster.claims, lostReads := b.raster.lostReads } }).answer c.ring a, [.rasterTake])

/-- The slot pinned by the stamp in progress is unpinned (R114, R125). -/
def unpinStamp (b : Blocks) : Blocks :=
  match b.raster.stamp with
  | some ⟨some n⟩ => { b with glyph := b.glyph.unpin n }
  | some ⟨none⟩ | none => b

/-- The operation fails by R114. -/
def failOperation (b : Blocks) (c : Claim) : Blocks × List Task :=
  b.unpinStamp.endOperation c (.failed .busError)

/-- What a completed TEXT answers (R126). -/
def textAnswer (missing : Nat) : Answer := if missing = 0 then .done else .partially missing 0

/-! ## The rectangle in hand -/

/-- The work of the operation in service: its rectangle, or the rectangle of the stamp in progress (R124). -/
def work (b : Blocks) (c : Claim) : Work :=
  let a := c.entry.rasterArgs
  let dst := b.surface a.dst
  let m := b.raster.metrics
  let same := a.kind.hasSource && a.src == a.dst
  let dx := if a.kind = .text then a.dx + b.raster.codeIndex * m.advance else a.dx
  let w := if a.kind = .text then m.advance else a.w
  let h := if a.kind = .text then m.height else a.h
  { args := a, mix := a.mix.getD .replace, dst := dst, src := b.surface a.src, dx := dx, dy := a.dy,
    area := admitted dst.clip dx a.dy w h,
    rightToLeft := same && decide ((a.sx : Int) < a.dx), bottomToTop := same && decide ((a.sy : Int) < a.dy),
    bitmap := (b.raster.stamp.bind Stamp.slot).map fun n => b.glyph.slots[n].bitmap,
    glyphColumns := min m.width m.advance }

/-- The lookup of the code now due (R123). -/
def lookupCode (b : Blocks) (c : Claim) : Blocks × List Task :=
  let code := b.raster.codes.getD b.raster.codeIndex 0
  let b' := { b with raster := { b.raster with step := .lookingUp, stamp := none, drawing := none } }
  match c.entry.rasterArgs.face with
  | some f => b'.onGlyph (b'.glyph.lookup .text f code)
  | none => (b', [.answered .text .notSet])

/-- The stamp in progress ends: its slot is unpinned, and the next code is looked up or the TEXT completes
(R125, R126). -/
def endStamp (b : Blocks) (c : Claim) : Blocks × List Task :=
  let b' := b.unpinStamp
  let next := b.raster.codeIndex + 1
  if next < b.raster.codes.length then
    { b' with raster := { b'.raster with codeIndex := next, stamp := none } }.lookupCode c
  else b'.endOperation c (textAnswer b.raster.missing)

/-- Every pixel of the rectangle in hand has been written or skipped (R115, R125). -/
def endArea (b : Blocks) (c : Claim) : Blocks × List Task :=
  match c.entry.rasterArgs.kind with
  | .text => b.endStamp c
  | .fill | .copy | .expand => b.endOperation c .done

/-- Draws on with the first pixel that takes a transfer in the rows from row place `r` (R113). -/
def drawRows (b : Blocks) (c : Claim) (r : Nat) : Blocks × List Task :=
  let k := b.work c
  match k.seekRow (k.area.rows - r) r with
  | some (r', x) =>
    let bits := k.rowBits r'
    ({ b with raster := { b.raster with
        step := .drawing, drawing := some ⟨r', x, bits, k.firstTransfer bits r' x⟩ } }, [])
  | none => b.endArea c

/-- What the engine does after abandoning its operation (R128, steps 3 to 5). -/
def finishAbandoned (b : Blocks) : Blocks :=
  let b1 := b.unpinStamp
  let b2 := match b.raster.service with
    | some c =>
      let a := c.entry.rasterArgs
      (b1.setMark a.dst false).setMark a.src false
    | none => b1
  { b2 with raster := { RasterEngine.idle with lostReads := b.raster.lostReads } }

/-- The pixel in hand is settled: the next pixel of the row that takes a transfer is begun, or else the rows
after it, which an abandoned operation does not begin (R113, R128). -/
def nextPixel (b : Blocks) (c : Claim) (d : Drawing) : Blocks × List Task :=
  let k := b.work c
  match k.seekColumn d.rowBits (d.column + 1) with
  | some x =>
    ({ b with raster := { b.raster with
        drawing := some { d with column := x, transfer := k.firstTransfer d.rowBits d.row x } } }, [])
  | none => if b.raster.finishing then (b.finishAbandoned, []) else b.drawRows c (d.row + 1)

/-- A pixel transfer has ended without error; `byte` is what a read returned (R112). -/
def transferEnded (b : Blocks) (c : Claim) (d : Drawing) (byte : Byte) : Blocks × List Task :=
  let k := b.work c
  match d.transfer.kind with
  | .sourceRead =>
    match k.sourceValue d.column byte with
    | some s =>
      ({ b with raster := { b.raster with
          drawing := some { d with transfer := k.destTransfer d.row d.column s } } }, [])
    | none => b.nextPixel c d
  | .destRead s =>
    ({ b with raster := { b.raster with
        drawing := some { d with transfer := { d.transfer with
          kind := .destWrite (k.writtenByte d.column s byte) } } } }, [])
  | .destWrite _ => b.nextPixel c d

/-- A pixel transfer has ended with a bus error (R114): an abandoned operation only ends (R128, log
entry 14). -/
def transferFailed (b : Blocks) (c : Claim) : Blocks × List Task :=
  if b.raster.finishing then (b.finishAbandoned, []) else b.failOperation c

/-! ## TEXT (R122, R123) -/

/-- The code-list read ends (R122). -/
def codesRead (b : Blocks) (c : Claim) (read : ReadEnd) : Blocks × List Task :=
  match read with
  | .ok bytes =>
    { b with raster := { b.raster with
      codeRead := none, codes := halvesOf c.entry.rasterArgs.count bytes, codeIndex := 0 } }.lookupCode c
  | .busError => { b with raster := { b.raster with codeRead := none } }.failOperation c

/-- The Raster TEXT requester takes the answer of its lookup (R123). -/
def textAnswered (b : Blocks) (a : LookupAnswer) : Blocks × List Task :=
  match b.raster.service with
  | none => (b, [])
  | some c =>
    match a with
    | .slot n => { b with raster := { b.raster with stamp := some ⟨some n⟩ } }.drawRows c 0
    | .missing | .noSlot | .notSet =>
      { b with raster := { b.raster with
        stamp := some ⟨none⟩, missing := b.raster.missing + 1 } }.drawRows c 0
    | .busError => b.failOperation c

/-! ## Claims (R107, R108) -/

/-- The claim the arbiter takes (R108): the oldest URGENT one, else the oldest. -/
def chosenClaim (claims : List Claim) : Option Claim :=
  (claims.find? fun c => c.cls == .urgent).or claims.head?

/-- The operation of a claim that has passed validation begins (R98, R110, R121). -/
def beginOperation (b : Blocks) (c : Claim) : Blocks × List Task :=
  let a := c.entry.rasterArgs
  let b1 := (b.setMark a.dst true).setMark a.src true
  match a.kind with
  | .fill | .copy | .expand =>
    { b1 with raster := { b1.raster with step := .drawing, service := some c } }.drawRows c 0
  | .text =>
    let f := (a.face.map fun f => b.glyph.faces[f]).getD Face.none
    ({ b1 with raster := { b1.raster with
        step := .readingList, service := some c, metrics := ⟨f.width, f.height, f.advance⟩,
        codeRead := some ⟨a.listAddr.toNat, a.count * 2⟩ } }, [])

/-- An IDLE engine takes a claim and validates it; a failing claim is answered and the next is taken (R108,
R109). -/
def takeClaim (b : Blocks) : Blocks × List Task :=
  match b.raster.service, chosenClaim b.raster.claims with
  | none, some c =>
    let b1 := { b with raster := { b.raster with claims := b.raster.claims.erase c } }
    match b.rasterFails c.entry.rasterArgs with
    | some status => (b1.answer c.ring (.failed status), [.rasterTake])
    | none => b1.beginOperation c
  | _, _ => (b, [])

/-- A claim joins the queue; an IDLE engine takes a claim at once (R107). -/
def lodgeClaim (b : Blocks) (c : Claim) : Blocks × List Task :=
  ({ b with raster := { b.raster with claims := b.raster.claims ++ [c] } }, [.rasterTake])

/-! ## Halt and reset (R128) -/

/-- What the Raster Engine does on a halt or reset announcement (R128): a drawing operation goes on to the
end of its row, any other is abandoned at once. -/
def haltRaster (b : Blocks) : Blocks :=
  match b.raster.step with
  | .drawing => { b with raster := { b.raster with finishing := true } }
  | .lookingUp => { b with glyph := b.glyph.withdraw .text }.finishAbandoned
  | .none | .readingList =>
    { b with raster := { b.raster with
      codeRead := none, lostReads := b.raster.lostReads ++ b.raster.codeRead.toList } }.finishAbandoned

end Blocks

end Sys2Proof.Machine
end

