-- ==== Sys2Proof/Machine/Settle.lean ====
section
/-! DEFINITION. A handling that runs through several blocks: the Glyph Table's owned entries, what each task of
a handling does, the running of tasks until none is left, and the halt announcements of the Glyph Table, the
Lane Unit and the Raster Engine. -/

namespace Sys2Proof.Machine

namespace Blocks

/-! ## The Glyph Table's owned entries (R5) -/

/-- The owned entry in service ends: its staging buffer is emptied (R26), it answers, and the next entry is
taken (R5). -/
def glyphEnd (b : Blocks) (a : Answer) : Blocks × List Task :=
  match b.glyph.service with
  | some v =>
    ({ b with glyph := { b.glyph with service := none, staging := none } }.answerEnded v.ring a,
      [.glyphTake])
  | none => (b, [])

/-- FACE_LOAD and FACE_DROP end when they are taken; a face change is announced to the Lane Unit in the same
handling (R3, R4, R36). -/
def changeFace (b : Blocks) (x : GlyphTable × Except Status FaceId) : Blocks × List Task :=
  let b' := { b with glyph := x.1 }
  match x.2 with
  | .ok face => (b'.announceFace face, [.glyphEnd .done])
  | .error status => (b', [.glyphEnd (.failed status)])

/-- The face and the codes that a GLYPH_PRELOAD names. -/
def preloadFace (e : WorkEntry) : Option FaceId := recordNumber 8 (e.u8 0x04)

/-- The lookup of the code a GLYPH_PRELOAD has come to (R22). -/
def preloadLookup (b : Blocks) (v : GlyphService) : Blocks × List Task :=
  match preloadFace v.entry with
  | some f => b.onGlyph (b.glyph.lookup .preload f (BitVec.ofNat 16 v.code))
  | none => (b, [.glyphEnd (.failed .badOperand)])

/-- GLYPH_PRELOAD is taken (R22). -/
def servePreload (b : Blocks) (v : GlyphService) : Blocks × List Task :=
  match b.glyph.preloadFails (v.entry.u8 0x04) (v.entry.half 0x08) (v.entry.half 0x0A) with
  | some status => (b, [.glyphEnd (.failed status)])
  | none => b.preloadLookup v

/-- The PRELOAD requester takes the answer of its lookup (R22, R23). NOT_SET and MISSING do not arise, since
the code is in range and no face changes while the entry is in service; they would stop the preload as NO_SLOT
does (log entry 17). -/
def preloadAnswered (b : Blocks) (a : LookupAnswer) : Blocks × List Task :=
  match b.glyph.service with
  | none => (b, [])
  | some v =>
    let last := (v.entry.half 0x0A).toNat
    match a with
    | .slot _ =>
      if last ≤ v.code then (b, [.glyphEnd .done])
      else
        let v' := { v with code := v.code + 1 }
        { b with glyph := { b.glyph with service := some v' } }.preloadLookup v'
    | .noSlot | .notSet | .missing => (b, [.glyphEnd (.partially (last - v.code + 1) 0)])
    | .busError => (b, [.glyphEnd (.failed .busError)])

/-- GLYPH_DEFINE is taken: its checks, and the start of its bitmap read (R24). -/
def serveDefine (b : Blocks) (v : GlyphService) : Blocks × List Task :=
  let addr := v.entry.word 0x08
  match b.glyph.defineFails (v.entry.u8 0x04) addr, preloadFace v.entry with
  | none, some f =>
    ({ b with glyph := { b.glyph with
        defineRead := some ⟨addr.toNat, b.glyph.faces[f].height * 2⟩ } }, [])
  | some status, _ => (b, [.glyphEnd (.failed status)])
  | none, none => (b, [.glyphEnd (.failed .badOperand)])

/-- The bitmap read of the GLYPH_DEFINE in service ends (R24, R25, R26). -/
def defineReadEnds (b : Blocks) (read : ReadEnd) : Blocks × List Task :=
  match b.glyph.service, b.glyph.defineRead with
  | some v, some span =>
    let g := { b.glyph with defineRead := none }
    match read, preloadFace v.entry with
    | .ok bytes, some f =>
      b.onGlyph ({ g with staging := some (halvesOf (span.len / 2) bytes) }.defineCommit
        ⟨f, v.entry.half 0x06⟩)
    | _, _ => ({ b with glyph := g }, [.glyphEnd (.failed .busError)])
  | _, _ => (b, [])

/-- GLYPH_RELEASE is taken (R27). -/
def serveRelease (b : Blocks) (v : GlyphService) : Blocks × List Task :=
  let x := b.glyph.release (v.entry.u8 0x04) (v.entry.half 0x06)
  ({ b with glyph := x.1 }, [.glyphEnd ⟨x.2, 0, 0⟩])

/-- The Glyph Table serves an owned entry it has taken (R5). -/
def serveGlyph (b : Blocks) (r : RingId) (e : WorkEntry) : Blocks × List Task :=
  let v : GlyphService := ⟨r, e, (e.half 0x08).toNat⟩
  let b' := { b with glyph := { b.glyph with service := some v } }
  match e.kind with
  | some .faceLoad => b'.changeFace (b'.glyph.loadFace e.faceLoadArgs)
  | some .faceDrop => b'.changeFace (b'.glyph.dropFace (e.u8 0x04))
  | some .glyphPreload => b'.servePreload v
  | some .glyphDefine => b'.serveDefine v
  | some .glyphRelease => b'.serveRelease v
  | _ => (b, [])

/-- The head of the entry queue is taken when no owned entry is in service (R5). -/
def takeGlyph (b : Blocks) : Blocks × List Task :=
  match b.glyph.service, b.glyph.entries with
  | none, e :: rest => { b with glyph := { b.glyph with entries := rest } }.serveGlyph e.ring e.entry
  | _, _ => (b, [])

/-- An owned entry handed over is taken at once, or joins the entry queue (R5). -/
def arriveGlyph (b : Blocks) (r : RingId) (e : WorkEntry) : Blocks × List Task :=
  if b.glyph.service.isNone then b.serveGlyph r e
  else ({ b with glyph := { b.glyph with entries := b.glyph.entries ++ [⟨r, e⟩] } }, [])

/-! ## Tasks -/

/-- A requester takes its lookup answer (R11). -/
def answered (b : Blocks) (who : Requester) (a : LookupAnswer) : Blocks × List Task :=
  match who with
  | .text => b.textAnswered a
  | .laneEdit => b.laneAnswered a
  | .preload => b.preloadAnswered a
  | .define => (b, [])

/-- Does one task of a handling. -/
def doTask (b : Blocks) (t : Task) : Blocks × List Task :=
  match t with
  | .answered who a => b.answered who a
  | .glyphEnd a => b.glyphEnd a
  | .glyphTake => b.takeGlyph
  | .laneTake => b.takeLane
  | .rasterTake => b.takeClaim

/-- Does the tasks of a handling, and the tasks that they leave, oldest first, at most `n` of them (log
entries 12 and 13). -/
def settle : Nat → List Task → Blocks → Blocks
  | _, [], b => b
  | 0, _ :: _, b => b
  | n + 1, t :: rest, b => settle n (rest ++ (b.doTask t).2) (b.doTask t).1

end Blocks

/-! ## Halt and reset announcements (R29, R53, R128) -/

/-- The kinds the Glyph Table owns (Table 2). -/
def Kind.isGlyph : Kind → Bool
  | .faceLoad | .faceDrop | .glyphPreload | .glyphDefine | .glyphRelease => true
  | _ => false

/-- The kinds the Raster Engine owns (Table 2). -/
def Kind.isRaster : Kind → Bool
  | .fill | .copy | .expand | .text => true
  | _ => false

/-- The kinds the Lane Unit owns (Table 2). -/
def Kind.isLane : Kind → Bool
  | .laneSet | .laneText | .laneView | .laneMotion => true
  | _ => false

/-- The Glyph Table takes a halt or reset announcement (R29). -/
def State.haltGlyph (s : State) : State :=
  let s' := s.withGlyph s.glyph.abandon
  s'.withTransit { s'.transit.dropHandovers Kind.isGlyph with
    halts := { s'.transit.halts with glyph := false } }

/-- The Raster Engine takes a halt or reset announcement (R128). -/
def State.haltRaster (s : State) : State :=
  let s' := s.putBlocks s.blocks.haltRaster
  s'.withTransit { s'.transit.dropHandovers Kind.isRaster with
    halts := { s'.transit.halts with raster := false } }

/-- The Lane Unit takes a halt or reset announcement (R53). -/
def State.haltLane (s : State) : State :=
  let s' := s.putBlocks s.blocks.haltLane
  s'.withTransit { s'.transit.dropHandovers Kind.isLane with
    halts := { s'.transit.halts with lane := false } }

/-- Takes the announcements that wait at the Raster Engine, the Lane Unit and the Glyph Table. -/
def State.takeHalts (s : State) : State :=
  let s1 := if s.transit.halts.raster then s.haltRaster else s
  let s2 := if s1.transit.halts.lane then s1.haltLane else s1
  if s2.transit.halts.glyph then s2.haltGlyph else s2

/-- While the part is RESETTING no block starts a new memory transfer (R199): the three blocks that could
take the reset announcement before any other happening (log entry 18). -/
def State.quiesce (s : State) : State := if s.part = .resetting then s.takeHalts else s

/-- A handling that begins with `f` at one of the four blocks and runs until no task is left. -/
def State.runBlocks (s : State) (f : Blocks → Blocks × List Task) : State :=
  let x := f s.blocks
  s.putBlocks (Blocks.settle Config.handlingLimit x.2 x.1)

/-- An owner among the four blocks takes the entry handed over for ring `r`. -/
def State.takeBlocksEntry (s : State) (r : RingId) (kind : Kind) (op : Nat → Bool)
    (arrive : Blocks → WorkEntry → Blocks × List Task) : State :=
  s.quiesce.takeEntry r kind op fun e s' => s'.runBlocks fun b => arrive b e

end Sys2Proof.Machine
end

