-- ==== Sys2Proof/Machine/GlyphCommands.lean ====
section
/-! DEFINITION. The commands of the Glyph Table (chapter 1). -/

namespace Sys2Proof.Machine

/-- FACE_LOAD (R2, R3). -/
def execFaceLoad (ring : RingId) (s : State) : Host.Outcome State Fault Refusal :=
  .next (s.takeBlocksEntry ring .faceLoad (fun _ => true) fun b e => b.arriveGlyph ring e)

/-- FACE_DROP (R4). -/
def execFaceDrop (ring : RingId) (s : State) : Host.Outcome State Fault Refusal :=
  .next (s.takeBlocksEntry ring .faceDrop (fun _ => true) fun b e => b.arriveGlyph ring e)

/-- GLYPH_PRELOAD (R22, R23). -/
def execGlyphPreload (ring : RingId) (s : State) : Host.Outcome State Fault Refusal :=
  .next (s.takeBlocksEntry ring .glyphPreload (fun _ => true) fun b e => b.arriveGlyph ring e)

/-- GLYPH_DEFINE (R24). -/
def execGlyphDefine (ring : RingId) (s : State) : Host.Outcome State Fault Refusal :=
  .next (s.takeBlocksEntry ring .glyphDefine (fun _ => true) fun b e => b.arriveGlyph ring e)

/-- GLYPH_RELEASE (R27). -/
def execGlyphRelease (ring : RingId) (s : State) : Host.Outcome State Fault Refusal :=
  .next (s.takeBlocksEntry ring .glyphRelease (fun _ => true) fun b e => b.arriveGlyph ring e)

/-- GLYPH_FILL_END (R19, R20). -/
def execGlyphFillEnd (read : ReadEnd) (s : State) : Host.Outcome State Fault Refusal :=
  .next (s.quiesce.runBlocks fun b => b.onGlyph (b.glyph.fillEnds read))

/-- A bitmap read whose define was abandoned ends without effect (R29). -/
def State.dropDefineRead (s : State) : State :=
  s.withGlyph { s.glyph with lostReads := s.glyph.lostReads.tail }

/-- DEFINE_READ_END (R24 to R26): the read of the define in service, or else one whose define was abandoned. Between
a fatal fault and the Glyph Table's announcement it acts as in RUNNING (DESIGN CHOICE, log entry 41). -/
def execDefineReadEnd (read : ReadEnd) (s : State) : Host.Outcome State Fault Refusal :=
  let s' := s.quiesce
  .next <|
    if s'.glyph.defineRead.isSome then s'.runBlocks fun b => b.defineReadEnds read
    else s'.dropDefineRead

/-- GLYPH_TABLE_HALT_ANNOUNCEMENT (R29). -/
def execGlyphTableHaltAnnouncement (s : State) : Host.Outcome State Fault Refusal :=
  .next (if s.transit.halts.glyph then s.haltGlyph else s)

end Sys2Proof.Machine
end

