-- ==== Sys2Proof/Machine/LaneCommands.lean ====
section
/-! DEFINITION. The commands of the Lane Unit for its work entries (chapter 2, section 3.5). -/

namespace Sys2Proof.Machine

/-- The Lane Unit takes the entry of one kind and operation handed over for ring `r` (R32). -/
def State.takeLaneEntry (s : State) (r : RingId) (kind : Kind) (op : Nat → Bool) : State :=
  s.takeBlocksEntry r kind op fun b e => b.arriveLane r e

/-- LANE_SET (R33 to R35). -/
def execLaneSet (ring : RingId) (s : State) : Host.Outcome State Fault Refusal :=
  .next (s.takeLaneEntry ring .laneSet fun _ => true)

/-- LANE_TEXT_WRITE (R37 to R44); it takes the LANE_TEXT entries of no known operation, too (log entry 8). -/
def execLaneTextWrite (ring : RingId) (s : State) : Host.Outcome State Fault Refusal :=
  .next (s.takeLaneEntry ring .laneText fun op => op == 0 || decide (4 < op))

/-- LANE_TEXT_INSERT (R37 to R44). -/
def execLaneTextInsert (ring : RingId) (s : State) : Host.Outcome State Fault Refusal :=
  .next (s.takeLaneEntry ring .laneText fun op => op == 1)

/-- LANE_TEXT_DELETE (R45). -/
def execLaneTextDelete (ring : RingId) (s : State) : Host.Outcome State Fault Refusal :=
  .next (s.takeLaneEntry ring .laneText fun op => op == 2)

/-- LANE_TEXT_CLEAR (R46). -/
def execLaneTextClear (ring : RingId) (s : State) : Host.Outcome State Fault Refusal :=
  .next (s.takeLaneEntry ring .laneText fun op => op == 3)

/-- LANE_TEXT_CURSOR (R47). -/
def execLaneTextCursor (ring : RingId) (s : State) : Host.Outcome State Fault Refusal :=
  .next (s.takeLaneEntry ring .laneText fun op => op == 4)

/-- A cell-list read whose edit was abandoned goes on, or ends without effect (R41, R53). -/
def State.dropCellRead (s : State) (read : CellRead) : State :=
  match read with
  | .delivers _ => s
  | .ends _ | .busError => s.withLane { s.lane with lostReads := s.lane.lostReads.tail }

/-- The cell-list read of the edit in service is in flight. -/
def LaneUnit.reading (u : LaneUnit) : Bool := (u.service.bind LaneService.read).isSome

/-- The read of an edit that this very handling has abandoned goes on, or ends without effect: it is the last of
the lost reads (R53, R199; log entry 18). -/
def State.dropNewCellRead (s : State) (read : CellRead) : State :=
  match read with
  | .delivers _ => s
  | .ends _ | .busError => s.withLane { s.lane with lostReads := s.lane.lostReads.dropLast }

/-- CELL_LIST_READ_END (R39, R41); as in RUNNING between a fatal fault and the Lane Unit's announcement (DESIGN
CHOICE, log entry 41). -/
def execCellListReadEnd (abandoned : Bool) (read : CellRead) (s : State) :
    Host.Outcome State Fault Refusal :=
  let s' := s.quiesce
  .next <|
    if abandoned then s'.dropCellRead read
    else if s'.lane.reading then s'.runBlocks fun b => b.cellListRead read
    else if s.lane.reading then s'.dropNewCellRead read
    else s'

/-- LANE_VIEW_SHOW (R48); it takes the LANE_VIEW entries of no known operation, too (log entry 8). -/
def execLaneViewShow (ring : RingId) (s : State) : Host.Outcome State Fault Refusal :=
  .next (s.takeLaneEntry ring .laneView fun op => op == 0 || decide (3 < op))

/-- LANE_VIEW_HIDE (R48). -/
def execLaneViewHide (ring : RingId) (s : State) : Host.Outcome State Fault Refusal :=
  .next (s.takeLaneEntry ring .laneView fun op => op == 1)

/-- LANE_VIEW_REFRESH (R49, R50). -/
def execLaneViewRefresh (ring : RingId) (s : State) : Host.Outcome State Fault Refusal :=
  .next (s.takeLaneEntry ring .laneView fun op => op == 2)

/-- LANE_VIEW_RELEASE (R51). -/
def execLaneViewRelease (ring : RingId) (s : State) : Host.Outcome State Fault Refusal :=
  .next (s.takeLaneEntry ring .laneView fun op => op == 3)

/-- LANE_MOTION_START (R64); it takes the LANE_MOTION entries of no known operation, too (log entry 8). -/
def execLaneMotionStart (ring : RingId) (s : State) : Host.Outcome State Fault Refusal :=
  .next (s.takeLaneEntry ring .laneMotion fun op => op == 0 || decide (4 < op))

/-- LANE_MOTION_PAUSE (R64). -/
def execLaneMotionPause (ring : RingId) (s : State) : Host.Outcome State Fault Refusal :=
  .next (s.takeLaneEntry ring .laneMotion fun op => op == 1)

/-- LANE_MOTION_RESUME (R64). -/
def execLaneMotionResume (ring : RingId) (s : State) : Host.Outcome State Fault Refusal :=
  .next (s.takeLaneEntry ring .laneMotion fun op => op == 2)

/-- LANE_MOTION_STOP (R64). -/
def execLaneMotionStop (ring : RingId) (s : State) : Host.Outcome State Fault Refusal :=
  .next (s.takeLaneEntry ring .laneMotion fun op => op == 3)

/-- LANE_MOTION_SET_OFFSET (R65). -/
def execLaneMotionSetOffset (ring : RingId) (s : State) : Host.Outcome State Fault Refusal :=
  .next (s.takeLaneEntry ring .laneMotion fun op => op == 4)

/-- LANE_UNIT_HALT_ANNOUNCEMENT (R53). -/
def execLaneUnitHaltAnnouncement (s : State) : Host.Outcome State Fault Refusal :=
  .next (if s.transit.halts.lane then s.haltLane else s)

end Sys2Proof.Machine
end

