-- ==== Sys2Proof/Machine/Motion.lean ====
section
/-! DEFINITION. The Lane Unit at a frame start (sections 3.2 and 3.3): steps, jumps, passes and lane events, and
the snapshot of the frame that begins (R83). -/

namespace Sys2Proof.Machine

/-- The advance of a lane's face as it stands (R54). -/
def State.advanceOf (s : State) (k : Lane) : Nat := s.glyph.faces[k.settings.face].advance

/-- The cycle length L of a lane as it stands (R54). -/
def State.cycleOf (s : State) (k : Lane) : Nat := k.cycle (s.advanceOf k)

/-- A frame start moves this lane: it is SET and MOVING in MARQUEE or STEP mode with L above 0 (R56, R59). -/
def State.moves (s : State) (k : Lane) : Bool :=
  k.state == .set && k.motion == .moving && k.settings.mode != .fixed && decide (0 < s.cycleOf k)

/-! ## Passes and lane events (R60 to R62) -/

/-- The pass that completes is the done pass (R60). -/
def Lane.isDonePass (k : Lane) : Bool :=
  decide (0 < k.settings.repeats) && decide (min 65535 (k.passCount + 1) = k.settings.repeats)

/-- A lane after a completed pass (R60). -/
def Lane.passed (k : Lane) : Lane :=
  let k' := { k with passCount := min 65535 (k.passCount + 1) }
  if k.isDonePass then { k' with motion := .still, countdown := 0, offset := 0 } else k'

/-- The event setting asks for an event of this pass (R61). -/
def EventSetting.asks : EventSetting → Bool → Bool
  | .none, _ => false
  | .done, isDone => isDone
  | .eachPass, _ => true

/-- An event merged into a record (R62). -/
def EventRecord.merge (rec : EventRecord) (isDone : Bool) : EventRecord :=
  ⟨min 65535 (rec.passes + 1), rec.done || isDone⟩

/-- Sends ADD 1 for the lane's signal counter, if it has one (R61, step 1). -/
def State.sendSignal (s : State) (k : Lane) : State :=
  match k.settings.signal with
  | some c => s.withTransit { s.transit with laneAdditions := s.transit.laneAdditions ++ [c] }
  | none => s

/-- Makes a lane event (R61). -/
def State.laneEvent (s : State) (l : LaneId) (isDone : Bool) : State :=
  let s' := s.sendSignal (s.laneAt l)
  match (s.laneAt l).record with
  | some rec => s'.modLane l fun k => { k with record := some (rec.merge isDone) }
  | none => s'.offerLaneEvent l isDone

/-- Completes a pass of a lane (R60, R61). -/
def State.completePass (s : State) (l : LaneId) : State :=
  let k := s.laneAt l
  let s' := s.modLane l Lane.passed
  if k.settings.events.asks k.isDonePass then s'.laneEvent l k.isDonePass else s'

/-! ## Steps and jumps (R57, R58) -/

/-- The offset one MARQUEE step on (R57). -/
def Lane.steppedOffset (k : Lane) (cycle : Nat) : Nat :=
  match k.settings.direction with
  | .leftward => (k.offset + 1) % cycle
  | .rightward => (k.offset + cycle - 1) % cycle

/-- Moves a lane to an offset with its countdown reloaded; arriving at 0 completes a pass (R57, R58). -/
def State.arrive (s : State) (l : LaneId) (offset : Nat) : State :=
  let s' := s.modLane l fun k => { k with countdown := k.loadedCountdown, offset := offset }
  if offset = 0 then s'.completePass l else s'

/-- The step of a MARQUEE lane whose countdown has reached 0 (R57). -/
def State.marqueeStep (s : State) (l : LaneId) : State :=
  s.arrive l ((s.laneAt l).steppedOffset (s.cycleOf (s.laneAt l)))

/-- The jump of a STEP lane whose countdown has reached 0 (R58). -/
def State.stepJump (s : State) (l : LaneId) : State :=
  s.arrive l ((s.laneAt l).nextStop (s.advanceOf (s.laneAt l)) (s.laneAt l).offset)

/-- The motion of a lane that a frame start moves has come due. -/
def State.due (s : State) (l : LaneId) : Bool := s.moves (s.laneAt l) && (s.laneAt l).countdown == 0

/-- One lane's step or jump, where it is due. -/
def State.stepLane (s : State) (l : LaneId) : State :=
  if s.due l then
    match (s.laneAt l).settings.mode with
    | .fixed => s
    | .marquee => s.marqueeStep l
    | .step => s.stepJump l
  else s

/-- One lane at a frame start (R56 to R59). -/
def State.moveLane (s : State) (l : LaneId) : State :=
  if s.moves (s.laneAt l) then (s.modLane l fun k => { k with countdown := k.countdown - 1 }).stepLane l else s

/-- The lanes of a list at a frame start, in order. -/
def State.moveLanes : List LaneId → State → State
  | [], s => s
  | l :: rest, s => State.moveLanes rest (s.moveLane l)

/-! ## The snapshot (R83) -/

/-- The frame that begins, with the lanes, faces and bitmaps as they stand. -/
def State.snapshot (s : State) (n : FrameNotice) : Frame :=
  { background := n.background, lanes := s.lane.lanes, faces := s.glyph.faces,
    bitmaps := mapTable Slot.bitmap s.glyph.slots, phases := n.phases }

/-- The Lane Unit's handling of one frame start (R56, R83). -/
def State.laneFrame (s : State) (n : FrameNotice) : State :=
  let s' := State.moveLanes [0, 1, 2, 3, 4, 5, 6, 7] s
  s'.withFrame (some (s'.snapshot n))

/-- LANE_FRAME_START (R56): takes the oldest announcement. -/
def execLaneFrameStart (s : State) : Host.Outcome State Fault Refusal :=
  .next <|
    match s.transit.laneFrames with
    | [] => s
    | n :: rest => (s.withTransit { s.transit with laneFrames := rest }).laneFrame n

/-- MARQUEE_STEP (R57): the part of a frame start's handling that steps one lane (log entry 4). -/
def execMarqueeStep (lane : LaneId) (s : State) : Host.Outcome State Fault Refusal :=
  .next (if s.due lane ∧ (s.laneAt lane).settings.mode = .marquee then s.marqueeStep lane else s)

/-- STEP_JUMP (R58): the part of a frame start's handling that jumps one lane (log entry 4). -/
def execStepJump (lane : LaneId) (s : State) : Host.Outcome State Fault Refusal :=
  .next (if s.due lane ∧ (s.laneAt lane).settings.mode = .step then s.stepJump lane else s)

end Sys2Proof.Machine
end

