-- ==== Sys2Proof/Machine/Panel.lean ====
section
/-! DEFINITION. What the panel shows (sections 3.7, 4.6 and 4.10): the composition of a frame, pixel by pixel,
read from the frame in hand and from frame memory. No command changes state here. -/

namespace Sys2Proof.Machine

/-- A background pixel of a frame, as frame memory holds it when the row goes out (R84, R86). -/
def Frame.backgroundPixel (f : Frame) (m : Memory) (px py : Nat) : Byte :=
  match f.background with
  | .blank c => c
  | .pixels base pitch x y => m.read (base + (y + py) * pitch + x + px)

/-- The content position of a window column, `none` where L is 0 in MARQUEE and STEP (R68). -/
def Lane.contentPosition (k : Lane) (advance c : Nat) : Option Nat :=
  match k.settings.mode with
  | .fixed => some (c + k.offset)
  | .marquee | .step =>
    if k.cycle advance = 0 then Option.none else some ((c + k.offset) % k.cycle advance)

/-- The cell a window column lies in and the column in it, where it lies in one (R68). -/
def Lane.cellAtColumn (k : Lane) (advance c : Nat) : Option (TextCell × Nat) :=
  match k.contentPosition advance c with
  | .none => Option.none
  | some p =>
    if p < k.textWidth advance then (k.cells[p / advance]?).map fun cell => (cell, p % advance)
    else Option.none

/-- The phase of a blink class; class 0 is ON at every frame (R67). -/
def Frame.phaseOf (f : Frame) (blink : BitVec 2) : BlinkPhase :=
  if blink = 0 then .on else f.phases.toArray.getD (blink.toNat - 1) .on

/-- Step 1 of R69: the bit of the cell's bitmap; outside the glyph box the role is paper. -/
def Frame.glyphBit (f : Frame) (face : Face) (cell : TextCell) (row : Int) (column : Nat) : Bool :=
  match cell.slot with
  | some n =>
    decide (0 ≤ row) && decide (row < face.height) && decide (column < min face.width face.advance) &&
    ((f.bitmaps[n]).toArray.getD row.toNat 0).getMsbD column
  | none => false

/-- The pixel of a cell has the ink role (R69). -/
def Frame.inkRole (f : Frame) (face : Face) (cell : TextCell) (row : Int) (column : Nat) : Bool :=
  if cell.slot.isNone ∨ f.phaseOf cell.blink = .off then false
  else f.glyphBit face cell row column != cell.inverse

/-- The value a lane draws at window pixel (c, r), `none` where it does not draw (R70). -/
def Frame.windowPixel (f : Frame) (k : Lane) (c r : Nat) : Option Byte :=
  let face := f.faces[k.settings.face]
  let paper := if k.settings.paperClear then none else some k.settings.paper
  match k.cellAtColumn face.advance c with
  | none => paper
  | some (cell, u) =>
    if f.inkRole face cell ((r : Int) - k.settings.verticalOffset) u then
      some (if cell.highlight then k.settings.altInk else k.settings.ink)
    else paper

/-- A panel pixel after one lane is laid over it (R85). -/
def Frame.overlay (f : Frame) (k : Lane) (px py : Nat) (below : Byte) : Byte :=
  let v := k.settings
  if k.state = .set ∧ k.visibility = .shown ∧ (v.x ≤ px ∧ px < v.x + v.w) ∧ (v.y ≤ py ∧ py < v.y + v.h) then
    (f.windowPixel k (px - v.x) (py - v.y)).getD below
  else below

/-- A panel pixel of a frame: the background, and the lanes over it in ascending lane number (R85). -/
def Frame.pixel (f : Frame) (m : Memory) (px py : Nat) : Byte :=
  f.lanes.toList.foldl (fun below k => f.overlay k px py below) (f.backgroundPixel m px py)

/-- The panel pixel the Panel Interface sends at (px, py): none while it holds the panel blanked, and none
outside the panel (R89). -/
def State.panelPixel (s : State) (px py : Nat) : Option Byte :=
  if px < s.presentation.panelWidth ∧ py < s.presentation.panelHeight then
    s.frame.map fun f => f.pixel s.frameMemory px py
  else none

/-- Row `py` of a frame as it goes out: from px 0 to the last pixel (R89). -/
def Frame.row (f : Frame) (m : Memory) (width py : Nat) : List Byte :=
  (List.range width).map fun px => f.pixel m px py

/-- The rows the Panel Interface sends of the frame in hand, in the order in which they go out: from row 0, at the
top, to the last row, each once (R89); none while it holds the panel blanked. Each row shows frame memory as it
stands when the row goes out (R86); the instants of the rows within the frame period are timing (log entry 25). -/
def State.panelRows (s : State) : List (List Byte) :=
  match s.frame with
  | none => []
  | some f => (List.range s.presentation.panelHeight).map (f.row s.frameMemory s.presentation.panelWidth)

end Sys2Proof.Machine
end

