-- ==== Sys2Proof/Machine/RasterCommands.lean ====
section
/-! DEFINITION. The commands of the Raster Engine (chapter 6). -/

namespace Sys2Proof.Machine

/-- Lodges the raster entry handed over for ring `r` as a claim with the ring's class as it stands (R107). No claim
reaches the engine while the part is HALTED (R128), nor in another state than RUNNING (log entry 38). -/
def State.takeRasterEntry (s : State) (r : RingId) (kind : Kind) : State :=
  if s.isRunning then
    s.takeBlocksEntry r kind (fun _ => true) fun b e => b.lodgeClaim ⟨r, (s.ring r).cls, e⟩
  else s.quiesce

/-- FILL (R107, R116). -/
def execFill (ring : RingId) (s : State) : Host.Outcome State Fault Refusal :=
  .next (s.takeRasterEntry ring .fill)

/-- COPY (R107, R117 to R119). -/
def execCopy (ring : RingId) (s : State) : Host.Outcome State Fault Refusal :=
  .next (s.takeRasterEntry ring .copy)

/-- EXPAND (R107, R119, R120). -/
def execExpand (ring : RingId) (s : State) : Host.Outcome State Fault Refusal :=
  .next (s.takeRasterEntry ring .expand)

/-- TEXT (R107, R121). -/
def execText (ring : RingId) (s : State) : Host.Outcome State Fault Refusal :=
  .next (s.takeRasterEntry ring .text)

/-- A code-list read whose TEXT was abandoned ends without effect (R128). -/
def State.dropCodeRead (s : State) : State :=
  s.withRaster { s.raster with lostReads := s.raster.lostReads.tail }

/-- CODE_LIST_READ_END (R122): the read of the TEXT in service, or else one whose TEXT was abandoned. Between a fatal
fault and the engine's announcement it acts as in RUNNING (DESIGN CHOICE, log entry 41). -/
def execCodeListReadEnd (read : ReadEnd) (s : State) : Host.Outcome State Fault Refusal :=
  let s' := s.quiesce
  .next <|
    match s'.raster.service, s'.raster.codeRead with
    | some c, some _ => s'.runBlocks fun b => b.codesRead c read
    | _, _ => s'.dropCodeRead

/-- The byte that a pixel transfer's read returns: of frame memory for LOCAL, of the command for HOST (R92). -/
def RasterTransfer.byte (t : RasterTransfer) (m : Memory) (read : ReadEnd) : Byte :=
  match t.space, read with
  | .loc, _ => m.read t.addr
  | .host, .ok bytes => byteAt bytes 0
  | .host, .busError => 0

/-- Frame memory after a pixel transfer: a LOCAL write stores its byte (R92). -/
def RasterTransfer.stored (t : RasterTransfer) (m : Memory) : Memory :=
  match t.space, t.kind with
  | .loc, .destWrite byte => m.write t.addr byte
  | _, _ => m

/-- The transfer has met a bus error; a LOCAL transfer ends without error (R92). -/
def RasterTransfer.errs (t : RasterTransfer) (read : ReadEnd) : Bool :=
  t.space == .host && read == .busError

/-- A pixel transfer of the operation in service ends (R112 to R114). -/
def State.endTransfer (s : State) (c : Claim) (d : Drawing) (read : ReadEnd) : State :=
  if d.transfer.errs read then s.runBlocks fun b => b.transferFailed c
  else
    (s.withFrameMemory (d.transfer.stored s.frameMemory)).runBlocks fun b =>
      b.transferEnded c d (d.transfer.byte s.frameMemory read)

/-- RASTER_TRANSFER_END (R112 to R114). Between a fatal fault and the engine's announcement it acts as in RUNNING: the
next row, lookup or waiting claim may begin (DESIGN CHOICE, log entry 41). -/
def execRasterTransferEnd (read : ReadEnd) (s : State) : Host.Outcome State Fault Refusal :=
  let s' := s.quiesce
  match s'.raster.service, s'.raster.drawing with
  | some c, some d =>
    if d.transfer.space = .loc ∧ Config.frameMemorySize ≤ d.transfer.addr then
      .fault (.outsideFrameMemory d.transfer.addr)
    else .next (s'.endTransfer c d read)
  | _, _ => .next s'

/-- RASTER_HALT_ANNOUNCEMENT (R128). -/
def execRasterHaltAnnouncement (s : State) : Host.Outcome State Fault Refusal :=
  .next (if s.transit.halts.raster then s.haltRaster else s)

end Sys2Proof.Machine
end

