-- ==== Sys2Proof/Machine/Surface.lean ====
section
/-! DEFINITION. The Surface Table's entries (chapter 5). -/

namespace Sys2Proof.Machine

/-- A depth of Table 22. -/
def depthValid (d : Nat) : Bool := d == 1 || d == 2 || d == 4 || d == 8

/-- The last byte address of a space (R94). -/
def Space.lastByte : Space → Nat
  | .loc => Config.frameMemorySize - 1
  | .host => Config.hostTop

/-- The descriptor a SURFACE_SET gives in a space (R95): the clip is the full surface. -/
def SurfaceSetArgs.descriptor (a : SurfaceSetArgs) (space : Space) : Surface :=
  { state := .set, space := space, base := a.base, width := a.width, height := a.height, depth := a.depth,
    pitch := a.pitch, clip := some ⟨0, 0, a.width - 1, a.height - 1⟩, hold := .none, mark := false }

/-- The validation of R94: the surface and the new descriptor. -/
def SurfaceSetArgs.validated (a : SurfaceSetArgs) : Option (SurfaceId × Surface) :=
  match recordNumber 16 a.surface, a.space with
  | some n, some space =>
    let k := a.descriptor space
    if (1 ≤ a.width ∧ a.width ≤ 4096) ∧ (1 ≤ a.height ∧ a.height ≤ 4096) ∧ depthValid a.depth ∧
        a.base.toNat % 4 = 0 ∧ a.pitch % 4 = 0 ∧ k.rowBytes ≤ a.pitch ∧ a.pitch ≤ 65532 ∧
        a.base.toNat + (a.height - 1) * a.pitch + k.rowBytes - 1 ≤ space.lastByte then
      some (n, k)
    else none
  | _, _ => none

/-- The surface is in use (R95). -/
def Surface.inUse (k : Surface) : Bool := k.hold != .none || k.mark

/-- Surface record `n` (R90). -/
def State.surfaceAt (s : State) (n : SurfaceId) : Surface := s.surfaces[n]

/-- Replaces surface record `n`. -/
def State.setSurface (s : State) (n : SurfaceId) (k : Surface) : State :=
  s.withSurfaces (update s.surfaces n k)

/-- SURFACE_SET (R94, R95). -/
def State.serveSurfaceSet (r : RingId) (e : WorkEntry) (s : State) : State :=
  match e.surfaceSetArgs.validated with
  | none => s.giveAnswer r (.failed .badOperand)
  | some (n, k) =>
    if (s.surfaceAt n).inUse then s.giveAnswer r (.failed .inUse)
    else (s.setSurface n k).giveAnswer r .done

/-- The clip rectangle that a given rectangle leaves of a surface (R96). -/
def ClipSetArgs.clip (a : ClipSetArgs) (k : Surface) : Option Clip :=
  if a.x1 < 0 ∨ a.y1 < 0 ∨ (k.width : Int) - 1 < max a.x0 0 ∨ (k.height : Int) - 1 < max a.y0 0 then none
  else
    some ⟨(max a.x0 0).toNat, (max a.y0 0).toNat, (min a.x1 (k.width - 1)).toNat,
      (min a.y1 (k.height - 1)).toNat⟩

/-- Step 1 of R96. -/
def ClipSetArgs.valid (a : ClipSetArgs) : Bool :=
  inDrawingRange a.x0 && inDrawingRange a.y0 && inDrawingRange a.x1 && inDrawingRange a.y1 &&
  decide (a.x0 ≤ a.x1) && decide (a.y0 ≤ a.y1)

/-- CLIP_SET (R96). -/
def State.serveClipSet (r : RingId) (e : WorkEntry) (s : State) : State :=
  let a := e.clipSetArgs
  match recordNumber 16 a.surface with
  | none => s.giveAnswer r (.failed .badOperand)
  | some n =>
    let k := s.surfaceAt n
    if !a.valid then s.giveAnswer r (.failed .badOperand)
    else if k.state = .unset then s.giveAnswer r (.failed .notSet)
    else if k.inUse then s.giveAnswer r (.failed .inUse)
    else (s.setSurface n { k with clip := a.clip k }).giveAnswer r .done

/-- Takes an entry of the Surface Table; during RESETTING the Surface Table takes none (R105). -/
def State.takeSurfaceEntry (s : State) (r : RingId) (kind : Kind)
    (serve : WorkEntry → State → State) : State :=
  if s.part = .resetting then s else s.takeEntry r kind (fun _ => true) serve

/-- SURFACE_SET (R93 to R95). -/
def execSurfaceSet (ring : RingId) (s : State) : Host.Outcome State Fault Refusal :=
  .next (s.takeSurfaceEntry ring .surfaceSet (State.serveSurfaceSet ring))

/-- CLIP_SET (R93, R96). -/
def execClipSet (ring : RingId) (s : State) : Host.Outcome State Fault Refusal :=
  .next (s.takeSurfaceEntry ring .clipSet (State.serveClipSet ring))

end Sys2Proof.Machine
end

