-- ==== Sys2Proof/Machine/Sync.lean ====
section
/-! DEFINITION. The Sync Table (chapter 9): counters, waiters, frame waits, and its commands. -/

namespace Sys2Proof.Machine

/-- The value of a counter (R177). -/
def State.counter (s : State) (c : CounterId) : Word := s.sync.counters[c]

/-- A saturating sum (R179). -/
def saturatingAdd (a b : Word) : Word :=
  if a.toNat + b.toNat < 2 ^ 32 then a + b else BitVec.allOnes 32

/-- Answers the entries of several rings, in order (R180, R183). The Intake Unit may take the answers in any order
(DESIGN CHOICE, log entry 40). -/
def State.answerRings (a : Answer) : List RingId → State → State
  | [], s => s
  | r :: rs, s => State.answerRings a rs (s.giveAnswer r a)

/-- A waiter on `c` that a counter value satisfies (R180). -/
def Waiter.satisfied (c : CounterId) (value : Word) (w : Waiter) : Bool :=
  w.counter == c && decide (w.value.toNat ≤ value.toNat)

/-- Re-tests the waiters of a counter that has changed (R180). -/
def State.retest (s : State) (c : CounterId) : State :=
  let met := s.sync.waiters.filter (Waiter.satisfied c (s.counter c))
  let left := s.sync.waiters.filter fun w => !Waiter.satisfied c (s.counter c) w
  (s.withSync { s.sync with waiters := left }).answerRings .done (met.map Waiter.ring)

/-- Changes a counter and re-tests its waiters (R179, R180). -/
def State.setCounter (s : State) (c : CounterId) (value : Word) : State :=
  (s.withSync { s.sync with counters := update s.sync.counters c value }).retest c

/-- ADD (R179). -/
def State.addCounter (s : State) (c : CounterId) (value : Word) : State :=
  s.setCounter c (saturatingAdd (s.counter c) value)

/-! ## Entries (R178) -/

/-- SIGNAL (R178, R179): an operation that is neither ADD nor SET fails. -/
def State.serveSignal (r : RingId) (e : WorkEntry) (s : State) : State :=
  match recordNumber 16 (e.u8 0x04), e.operation with
  | some c, 0 => (s.addCounter c (e.word 0x08)).giveAnswer r .done
  | some c, 1 => (s.setCounter c (e.word 0x08)).giveAnswer r .done
  | _, _ => s.giveAnswer r (.failed .badOperand)

/-- WAIT (R182). -/
def State.serveWait (r : RingId) (e : WorkEntry) (s : State) : State :=
  match recordNumber 16 (e.u8 0x04) with
  | none => s.giveAnswer r (.failed .badOperand)
  | some c =>
    let value := e.word 0x08
    if value.toNat ≤ (s.counter c).toNat then s.giveAnswer r .done
    else
      let countdown := if e.u16 0x06 = 0 then none else some (e.u16 0x06)
      s.withSync { s.sync with waiters := s.sync.waiters ++ [⟨r, c, value, countdown⟩] }

/-- WAIT_FRAME (R185). -/
def State.serveWaitFrame (r : RingId) (e : WorkEntry) (s : State) : State :=
  if e.u16 0x06 = 0 then s.giveAnswer r (.failed .badOperand)
  else s.withSync { s.sync with frameWaits := s.sync.frameWaits ++ [⟨r, e.u16 0x06⟩] }

/-- SIGNAL_ADD (R179); it takes the SIGNAL entries whose operation is neither ADD nor SET, too. -/
def execSignalAdd (ring : RingId) (s : State) : Host.Outcome State Fault Refusal :=
  .next (s.takeRunningEntry ring .signal (fun op => op != 1) (State.serveSignal ring))

/-- SIGNAL_SET (R179). -/
def execSignalSet (ring : RingId) (s : State) : Host.Outcome State Fault Refusal :=
  .next (s.takeRunningEntry ring .signal (fun op => op == 1) (State.serveSignal ring))

/-- WAIT (R182). -/
def execWait (ring : RingId) (s : State) : Host.Outcome State Fault Refusal :=
  .next (s.takeRunningEntry ring .wait (fun _ => true) (State.serveWait ring))

/-- WAIT_FRAME (R185). -/
def execWaitFrame (ring : RingId) (s : State) : Host.Outcome State Fault Refusal :=
  .next (s.takeRunningEntry ring .waitFrame (fun _ => true) (State.serveWaitFrame ring))

/-! ## Lane additions (R181) -/

/-- LANE_ADDITION (R181): takes one addition sent for the counter. -/
def execLaneAddition (counter : CounterId) (s : State) : Host.Outcome State Fault Refusal :=
  .next <|
    if counter ∈ s.transit.laneAdditions then
      (s.withTransit { s.transit with
        laneAdditions := s.transit.laneAdditions.erase counter }).addCounter counter 1
    else s

/-! ## Frame starts (R183) -/

/-- A waiter whose countdown stands at 0. -/
def Waiter.expired (w : Waiter) : Bool := w.countdown == some 0

/-- A frame wait whose countdown stands at 0. -/
def FrameWait.expired (w : FrameWait) : Bool := w.countdown == 0

/-- Removes the waiters of ring `r` whose countdown stands at 0 and answers WAIT_TIMEOUT (R183). -/
def State.timeOutWaiter (s : State) (r : RingId) : State :=
  if s.sync.waiters.any fun w => w.ring == r && w.expired then
    (s.withSync { s.sync with
      waiters := s.sync.waiters.filter fun w => !(w.ring == r && w.expired) }).giveAnswer r
        (.failed .waitTimeout)
  else s

/-- Removes the frame waits of ring `r` whose countdown stands at 0 and answers OK (R185). -/
def State.endFrameWait (s : State) (r : RingId) : State :=
  if s.sync.frameWaits.any fun w => w.ring == r && w.expired then
    (s.withSync { s.sync with
      frameWaits := s.sync.frameWaits.filter fun w => !(w.ring == r && w.expired) }).giveAnswer r .done
  else s

/-- Steps the countdowns that a frame start steps (R183). -/
def SyncTable.countDown (t : SyncTable) : SyncTable :=
  { t with
    waiters := t.waiters.map fun w => { w with countdown := w.countdown.map (· - 1) }
    frameWaits := t.frameWaits.map fun w => { w with countdown := w.countdown - 1 } }

/-- Times out, in list order, the waiters of the given rings. -/
def State.timeOutWaiters : List RingId → State → State
  | [], s => s
  | r :: rs, s => State.timeOutWaiters rs (s.timeOutWaiter r)

/-- Ends, in list order, the frame waits of the given rings. -/
def State.endFrameWaits : List RingId → State → State
  | [], s => s
  | r :: rs, s => State.endFrameWaits rs (s.endFrameWait r)

/-- The Sync Table's whole handling of one frame start (R183). -/
def State.syncFrame (s : State) : State :=
  let s' := s.withSync s.sync.countDown
  State.endFrameWaits (s'.sync.frameWaits.map FrameWait.ring)
    (State.timeOutWaiters (s'.sync.waiters.map Waiter.ring) s')

/-- SYNC_FRAME_START (R183): takes one announcement. -/
def execSyncFrameStart (s : State) : Host.Outcome State Fault Refusal :=
  .next <|
    if s.transit.syncFrames = 0 then s
    else (s.withTransit { s.transit with syncFrames := s.transit.syncFrames - 1 }).syncFrame

/-- WAIT_TIMEOUT (R183): the part of a frame start's handling that ends one waiter (log entry 4). -/
def execWaitTimeout (ring : RingId) (s : State) : Host.Outcome State Fault Refusal :=
  .next (s.timeOutWaiter ring)

/-- FRAME_WAIT_END (R185): the part of a frame start's handling that ends one frame wait (log entry 4). -/
def execFrameWaitEnd (ring : RingId) (s : State) : Host.Outcome State Fault Refusal :=
  .next (s.endFrameWait ring)

/-! ## Cancel requests and halts (R186, R187) -/

/-- Removes the record of ring `r` from both lists and answers CANCELLED where there was one (R186). -/
def State.cancelWait (s : State) (r : RingId) : State :=
  if s.sync.waiters.any (fun w => w.ring == r) || s.sync.frameWaits.any (fun w => w.ring == r) then
    (s.withSync { s.sync with
      waiters := s.sync.waiters.filter (fun w => !(w.ring == r)),
      frameWaits := s.sync.frameWaits.filter fun w => !(w.ring == r) }).giveAnswer r (.failed .cancelled)
  else s

/-- SYNC_CANCEL_REQUEST (R186). The request was sent after the entry was handed over and is taken after it
(log entry 6). -/
def execSyncCancelRequest (ring : RingId) (s : State) : Host.Outcome State Fault Refusal :=
  .next <|
    if s.transit.syncCancel[ring] && (s.handedOver ring).isNone then
      (s.withTransit { s.transit with
        syncCancel := update s.transit.syncCancel ring false }).cancelWait ring
    else s

/-- The kinds the Sync Table owns (Table 2). -/
def Kind.isSync : Kind → Bool
  | .signal | .wait | .waitFrame => true
  | _ => false

/-- What the Sync Table does on a halt or reset announcement (R187). -/
def State.haltSync (s : State) : State :=
  (s.withSync { s.sync with waiters := [], frameWaits := [] }).withTransit
    (s.transit.dropHandovers Kind.isSync)

/-- SYNC_TABLE_HALT_ANNOUNCEMENT (R187). -/
def execSyncTableHaltAnnouncement (s : State) : Host.Outcome State Fault Refusal :=
  .next <|
    if s.transit.halts.sync then
      let s' := s.haltSync
      s'.withTransit { s'.transit with halts := { s'.transit.halts with sync := false } }
    else s

end Sys2Proof.Machine
end

