-- ==== Sys2Proof/Machine/Dispatch.lean ====
section
/-! DEFINITION. The meaning of every command: one arm per row of `opcode_table.json`, in its order. -/

namespace Sys2Proof.Machine

def exec (i : Instr) (s : State) : Host.Outcome State Fault Refusal :=
  match i with
  | .powerOnReset => Sys2Proof.Machine.execPowerOnReset s
  | .ctrlRun value => Sys2Proof.Machine.execCtrlRun value s
  | .ctrlReset value => Sys2Proof.Machine.execCtrlReset value s
  | .setupWrite value => Sys2Proof.Machine.execSetupWrite value s
  | .rcmdPost value => Sys2Proof.Machine.execRcmdPost value s
  | .rcmdStop value => Sys2Proof.Machine.execRcmdStop value s
  | .rcmdResume value => Sys2Proof.Machine.execRcmdResume value s
  | .rcmdFlush value => Sys2Proof.Machine.execRcmdFlush value s
  | .rrelWrite value => Sys2Proof.Machine.execRrelWrite value s
  | .evtWrite value => Sys2Proof.Machine.execEvtWrite value s
  | .evtenWrite value => Sys2Proof.Machine.execEvtenWrite value s
  | .ignoredRegisterWrite reg size value => Sys2Proof.Machine.execIgnoredRegisterWrite reg size value s
  | .setupReadEnd read => Sys2Proof.Machine.execSetupReadEnd read s
  | .setupLoadEnd => Sys2Proof.Machine.execSetupLoadEnd s
  | .softResetReinit => Sys2Proof.Machine.execSoftResetReinit s
  | .fatalFault fault => Sys2Proof.Machine.execFatalFault fault s
  | .intakeHaltAnnouncement => Sys2Proof.Machine.execIntakeHaltAnnouncement s
  | .reportUnitHaltAnnouncement => Sys2Proof.Machine.execReportUnitHaltAnnouncement s
  | .glyphTableHaltAnnouncement => Sys2Proof.Machine.execGlyphTableHaltAnnouncement s
  | .rasterHaltAnnouncement => Sys2Proof.Machine.execRasterHaltAnnouncement s
  | .laneUnitHaltAnnouncement => Sys2Proof.Machine.execLaneUnitHaltAnnouncement s
  | .syncTableHaltAnnouncement => Sys2Proof.Machine.execSyncTableHaltAnnouncement s
  | .presentationHaltAnnouncement => Sys2Proof.Machine.execPresentationHaltAnnouncement s
  | .frameStart => Sys2Proof.Machine.execFrameStart s
  | .blinkPhaseToggle blink => Sys2Proof.Machine.execBlinkPhaseToggle blink s
  | .laneFrameStart => Sys2Proof.Machine.execLaneFrameStart s
  | .marqueeStep lane => Sys2Proof.Machine.execMarqueeStep lane s
  | .stepJump lane => Sys2Proof.Machine.execStepJump lane s
  | .hostPortFrameStart => Sys2Proof.Machine.execHostPortFrameStart s
  | .syncFrameStart => Sys2Proof.Machine.execSyncFrameStart s
  | .waitTimeout ring => Sys2Proof.Machine.execWaitTimeout ring s
  | .frameWaitEnd ring => Sys2Proof.Machine.execFrameWaitEnd ring s
  | .laneAddition counter => Sys2Proof.Machine.execLaneAddition counter s
  | .syncCancelRequest ring => Sys2Proof.Machine.execSyncCancelRequest ring s
  | .presentCancelRequest ring => Sys2Proof.Machine.execPresentCancelRequest ring s
  | .entryFetchEnd read => Sys2Proof.Machine.execEntryFetchEnd read s
  | .ownerAnswer ring => Sys2Proof.Machine.execOwnerAnswer ring s
  | .reportAccepted ring => Sys2Proof.Machine.execReportAccepted ring s
  | .statusWordWriteEnd ring busError => Sys2Proof.Machine.execStatusWordWriteEnd ring busError s
  | .reportWriteEnd busError => Sys2Proof.Machine.execReportWriteEnd busError s
  | .nop ring => Sys2Proof.Machine.execNop ring s
  | .faceLoad ring => Sys2Proof.Machine.execFaceLoad ring s
  | .faceDrop ring => Sys2Proof.Machine.execFaceDrop ring s
  | .glyphPreload ring => Sys2Proof.Machine.execGlyphPreload ring s
  | .glyphDefine ring => Sys2Proof.Machine.execGlyphDefine ring s
  | .glyphRelease ring => Sys2Proof.Machine.execGlyphRelease ring s
  | .glyphFillEnd read => Sys2Proof.Machine.execGlyphFillEnd read s
  | .defineReadEnd read => Sys2Proof.Machine.execDefineReadEnd read s
  | .surfaceSet ring => Sys2Proof.Machine.execSurfaceSet ring s
  | .clipSet ring => Sys2Proof.Machine.execClipSet ring s
  | .fill ring => Sys2Proof.Machine.execFill ring s
  | .copy ring => Sys2Proof.Machine.execCopy ring s
  | .expand ring => Sys2Proof.Machine.execExpand ring s
  | .text ring => Sys2Proof.Machine.execText ring s
  | .codeListReadEnd read => Sys2Proof.Machine.execCodeListReadEnd read s
  | .rasterTransferEnd read => Sys2Proof.Machine.execRasterTransferEnd read s
  | .laneSet ring => Sys2Proof.Machine.execLaneSet ring s
  | .laneTextWrite ring => Sys2Proof.Machine.execLaneTextWrite ring s
  | .laneTextInsert ring => Sys2Proof.Machine.execLaneTextInsert ring s
  | .laneTextDelete ring => Sys2Proof.Machine.execLaneTextDelete ring s
  | .laneTextClear ring => Sys2Proof.Machine.execLaneTextClear ring s
  | .laneTextCursor ring => Sys2Proof.Machine.execLaneTextCursor ring s
  | .cellListReadEnd abandoned read => Sys2Proof.Machine.execCellListReadEnd abandoned read s
  | .laneViewShow ring => Sys2Proof.Machine.execLaneViewShow ring s
  | .laneViewHide ring => Sys2Proof.Machine.execLaneViewHide ring s
  | .laneViewRefresh ring => Sys2Proof.Machine.execLaneViewRefresh ring s
  | .laneViewRelease ring => Sys2Proof.Machine.execLaneViewRelease ring s
  | .laneMotionStart ring => Sys2Proof.Machine.execLaneMotionStart ring s
  | .laneMotionPause ring => Sys2Proof.Machine.execLaneMotionPause ring s
  | .laneMotionResume ring => Sys2Proof.Machine.execLaneMotionResume ring s
  | .laneMotionStop ring => Sys2Proof.Machine.execLaneMotionStop ring s
  | .laneMotionSetOffset ring => Sys2Proof.Machine.execLaneMotionSetOffset ring s
  | .present ring => Sys2Proof.Machine.execPresent ring s
  | .signalAdd ring => Sys2Proof.Machine.execSignalAdd ring s
  | .signalSet ring => Sys2Proof.Machine.execSignalSet ring s
  | .wait ring => Sys2Proof.Machine.execWait ring s
  | .waitFrame ring => Sys2Proof.Machine.execWaitFrame ring s

end Sys2Proof.Machine
end

