-- ==== Sys2Proof/Safety.lean ====
section
/-! DEFINITION. What counts as a safe step, the shapes that every step keeps, and the words in which statements
speak of a command: the entry it takes, the answer it gives, and the command that takes an entry. -/

namespace Sys2Proof.Machine

/-! ## Safe steps and invariants -/

/-- The step goes on: it neither faults nor refuses. -/
def goesOn (x : Host.Outcome State Fault Refusal) : Prop := ∃ t, x = .next t

/-- The pixel transfer in flight, where it is LOCAL, lies inside frame memory (R89). -/
def State.transferInside (s : State) : Prop :=
  ∀ d, s.raster.drawing = some d → d.transfer.space = .loc → d.transfer.addr < Config.frameMemorySize

/-- The shape every step keeps: frame memory is in canonical form (R89, log entry 1), the report buffer holds
at most 8 entries (R162), and the setup address is a multiple of 64 (R192). -/
def State.Inv (s : State) : Prop :=
  s.frameMemory.wf = true ∧ s.report.buffer.length ≤ Config.reportBufferSize ∧
    s.host.setupAddr.toNat % 64 = 0

/-- The scan hold of every surface is the one the backgrounds give it (R78, R97). -/
def State.HoldsAgree (s : State) : Prop := ∀ n : SurfaceId, (s.surfaceAt n).hold = s.presentation.holdOf n

/-- The reclaim list holds exactly the RESIDENT slots without pins, each once (R9), and the slot of the fetch in
progress is FILLING (R17). -/
def State.ReclaimAgrees (s : State) : Prop :=
  (∀ n : SlotId, n ∈ s.glyph.reclaim ↔
    s.glyph.slots[n].state = .resident ∧ s.glyph.slots[n].pins = 0) ∧
  s.glyph.reclaim.Nodup ∧ ∀ f, s.glyph.fetch = some f → s.glyph.slots[f.slot].state = .filling

/-- Takes from two lists turn about, the first list's turn being now; a list that waits alone goes on alone. -/
def alternate {α : Type} : List α → List α → List α
  | [], ys => ys
  | x :: xs, [] => x :: xs
  | x :: xs, y :: ys => x :: y :: alternate xs ys

/-- The reports that wait for the Report Unit, in the order in which the arbiter takes them (R165, R166): the ring
class from its head and the lane class from the lowest number, turn about. -/
def State.waitingReports (s : State) : List ReportEntry :=
  let rings := s.report.ringClass.filterMap fun r => (s.ring r).reportDue.map fun rep => rep.entry r
  let lanes := (List.finRange 8).filterMap fun l =>
    (s.laneAt l).record.map fun rec => laneReportEntry l rec.done rec.passes (s.laneAt l).passCount
  if s.report.turn = .ring then alternate rings lanes else alternate lanes rings

/-- Slot `n` is the lowest-numbered FREE slot (R17). -/
abbrev State.lowestFree (s : State) (n : SlotId) : Prop :=
  s.glyph.slots[n].state = .free ∧ ∀ m : SlotId, m < n → s.glyph.slots[m].state ≠ .free

/-- A face is in use (R3): a slot with a key of it is pinned or FILLING, or a request for a key of it waits. -/
def State.faceUsed (s : State) (f : FaceId) : Prop :=
  (∃ (n : SlotId) (k : Key), s.glyph.slots[n].key = some k ∧ k.face = f ∧
    (0 < s.glyph.slots[n].pins ∨ s.glyph.slots[n].state = .filling)) ∨
  ∃ q ∈ s.glyph.queue, q.key.face = f

/-! ## Entries at their owners -/

/-- Entry `e` of ring `r` has been handed over and waits to be taken, its ring SERVING (R146). -/
abbrev State.waitsAt (s : State) (r : RingId) (e : WorkEntry) : Prop :=
  s.handedOver r = some e ∧ (s.ring r).awaitsAnswer = true

/-- The entry of ring `r` taken by its owner and answered in the same handling. -/
def State.answered (s : State) (r : RingId) (a : Answer) : State :=
  s.withTransit { s.transit with
    handover := update s.transit.handover r none, answers := update s.transit.answers r (some a) }

/-- The entry of ring `r` taken by the Glyph Table and answered in the same handling: the answer takes its place
in the order of the Glyph Table's answers (R5). -/
def State.answeredInOrder (s : State) (r : RingId) (a : Answer) : State :=
  s.withTransit { s.transit with
    handover := update s.transit.handover r none, answers := update s.transit.answers r (some a),
    glyphAnswers := s.transit.glyphAnswers ++ [r] }

/-- No owned entry is in service at the Glyph Table, none waits there, and the staging buffer is empty (R5, R24). -/
abbrev State.glyphFree (s : State) : Prop :=
  s.glyph.service = none ∧ s.glyph.entries = [] ∧ s.glyph.staging = none

/-- No lane entry is in service at the Lane Unit, and none waits there (R32). -/
abbrev State.laneFree (s : State) : Prop := s.lane.service = none ∧ s.lane.entries = []

/-- The Raster Engine is IDLE with every field of Table 26 empty, and no claim waits (R106, R115). -/
abbrev State.rasterIdle (s : State) : Prop :=
  s.raster = { RasterEngine.idle with lostReads := s.raster.lostReads }

/-- The command of a LANE_TEXT, LANE_VIEW, LANE_MOTION or SIGNAL entry, by its operation (Table 55). -/
def operationCommand (r : RingId) (kind : Kind) (op : Nat) : Option Instr :=
  match kind, op with
  | .laneText, 0 => some (.laneTextWrite r)
  | .laneText, 1 => some (.laneTextInsert r)
  | .laneText, 2 => some (.laneTextDelete r)
  | .laneText, 3 => some (.laneTextClear r)
  | .laneText, 4 => some (.laneTextCursor r)
  | .laneView, 0 => some (.laneViewShow r)
  | .laneView, 1 => some (.laneViewHide r)
  | .laneView, 2 => some (.laneViewRefresh r)
  | .laneView, 3 => some (.laneViewRelease r)
  | .laneMotion, 0 => some (.laneMotionStart r)
  | .laneMotion, 1 => some (.laneMotionPause r)
  | .laneMotion, 2 => some (.laneMotionResume r)
  | .laneMotion, 3 => some (.laneMotionStop r)
  | .laneMotion, 4 => some (.laneMotionSetOffset r)
  | .laneText, _ => some (.laneTextWrite r)
  | .laneView, _ => some (.laneViewShow r)
  | .laneMotion, _ => some (.laneMotionStart r)
  | .signal, 1 => some (.signalSet r)
  | .signal, _ => some (.signalAdd r)
  | _, _ => none

/-- The command by which its owner takes entry `e` of ring `r`; an entry whose operation has no meaning is
taken by the first command of its kind (log entry 8). -/
def takingCommand (r : RingId) (e : WorkEntry) : Option Instr :=
  match e.kind with
  | some .faceLoad => some (.faceLoad r)
  | some .faceDrop => some (.faceDrop r)
  | some .glyphPreload => some (.glyphPreload r)
  | some .glyphDefine => some (.glyphDefine r)
  | some .glyphRelease => some (.glyphRelease r)
  | some .surfaceSet => some (.surfaceSet r)
  | some .clipSet => some (.clipSet r)
  | some .fill => some (.fill r)
  | some .copy => some (.copy r)
  | some .expand => some (.expand r)
  | some .text => some (.text r)
  | some .laneSet => some (.laneSet r)
  | some .present => some (.present r)
  | some .wait => some (.wait r)
  | some .waitFrame => some (.waitFrame r)
  | some kind => operationCommand r kind e.operation
  | none => none

end Sys2Proof.Machine
end

