-- ==== Sys2Proof/Certificates/Slice0/Obligations.lean ====
section
/-! DEFINITION. The statements for the provers. -/

section Statements

open Sys2Proof Sys2Proof.Machine

/-! ## The machine as a whole -/

/-- A step takes the command at the front of the queue and runs it with the queue's rest. -/
def Obligations.StepTakesFrontCommand : Prop :=
  ∀ (c : Instr) (rest : List Instr) (s : State), s.pending = c :: rest → step s = exec c (s.withPending rest)

/-- What power-on reset leaves (R202 with Tables 6, 7, 12, 20, 22, 26, 31, 38, 41, 45): the part is IDLE with
cause POWER_ON, nothing is enabled or asserted, every ring is UNUSED, every face EMPTY, every slot FREE, every
lane and surface UNSET, the Raster Engine IDLE with every field empty, the counters 0, every list, queue and
buffer empty, and the panel blanked. -/
def Obligations.ResetLeavesEveryBlockEmpty : Prop :=
  (State.reset.part = .idle ∧ State.reset.host.fault = .none ∧ State.reset.host.faultDetail = 0 ∧
    State.reset.host.cause = .powerOn ∧ State.reset.host.setupAddr = 0 ∧ State.reset.host.evt = 0 ∧
    State.reset.host.evten = 0 ∧ State.reset.host.fcnt = 0 ∧ State.reset.interruptLine = false) ∧
  (∀ r : RingId, (State.reset.ring r).state = .unused ∧ (State.reset.ring r).phase = .idle ∧
    (State.reset.ring r).statusWrite = .none) ∧
  (State.reset.intake.lastServed = 3 ∧ State.reset.report.lap = true ∧ State.reset.report.turn = .ring ∧
    State.reset.presentation.state = .off ∧ State.reset.presentation.front = .blank 0) ∧
  (∀ f : FaceId, State.reset.glyph.faces[f] = Face.none) ∧
  (∀ n : SlotId, State.reset.glyph.slots[n].state = .free ∧ State.reset.glyph.slots[n].key = none ∧
    State.reset.glyph.slots[n].pins = 0) ∧
  (∀ l : LaneId, (State.reset.laneAt l).state = .unset ∧ (State.reset.laneAt l).cells = [] ∧
    (State.reset.laneAt l).record = none) ∧
  (∀ n : SurfaceId, (State.reset.surfaceAt n).state = .unset ∧ (State.reset.surfaceAt n).clip = none) ∧
  (∀ c : CounterId, State.reset.counter c = 0) ∧
  (State.reset.raster.step = .none ∧ State.reset.raster.service = none ∧ State.reset.raster.claims = [] ∧
    State.reset.raster.codes = [] ∧ State.reset.raster.stamp = none ∧ State.reset.raster.missing = 0 ∧
    State.reset.raster.metrics = ⟨0, 0, 0⟩ ∧ State.reset.raster.drawing = none ∧
    State.reset.raster.codeRead = none) ∧
  (State.reset.glyph.reclaim = [] ∧ State.reset.glyph.queue = [] ∧ State.reset.glyph.fetch = none ∧
    State.reset.glyph.staging = none ∧ State.reset.glyph.defineRead = none ∧ State.reset.glyph.service = none ∧
    State.reset.glyph.entries = []) ∧
  (State.reset.lane.staging = [] ∧ State.reset.lane.service = none ∧ State.reset.lane.entries = []) ∧
  (State.reset.sync.waiters = [] ∧ State.reset.sync.frameWaits = []) ∧
  (State.reset.report.buffer = [] ∧ State.reset.report.write = none ∧ State.reset.report.ringClass = [] ∧
    State.reset.report.writeIndex = 0 ∧ State.reset.report.releaseIndex = 0) ∧
  (State.reset.presentation.pending = none ∧ State.reset.presentation.queue = [] ∧
    State.reset.presentation.frameCounter = 0) ∧
  State.reset.intake.fetch = none ∧
  State.reset.panelRows = [] ∧ ∀ px py : Nat, State.reset.panelPixel px py = none

/-- Power-on reset from any state gives the reset state; frame memory and the waiting commands stay. A soft
reset waits until its transfers have ended and the Raster Engine is IDLE, and then leaves the same values with
cause SOFT. -/
def Obligations.ResetsReinitialiseThePart : Prop :=
  ∀ s : State,
    exec .powerOnReset s =
      .next ((State.reset.withFrameMemory s.frameMemory).withPending s.pending) ∧
    (s.part = .resetting → s.portBusy = false → s.raster.service = none →
      exec .softResetReinit s =
        .next (((State.reset.withHost { State.reset.host with cause := .soft }).withFrameMemory
          s.frameMemory).withPending s.pending)) ∧
    (s.part = .resetting → s.portBusy = true ∨ s.raster.service.isSome → exec .softResetReinit s = .next s)

/-- The reset state has the three invariants: report buffer within its 8 entries, setup address a multiple of 64
and frame memory in its canonical form, which is the model's choice (log entry 1); scan holds as the backgrounds
give them; the reclaim list the unpinned RESIDENT slots. -/
def Obligations.ResetMeetsTheInvariants : Prop :=
  State.reset.Inv ∧ State.reset.HoldsAgree ∧ State.reset.ReclaimAgrees

/-- Every step keeps the report buffer within its 8 entries, the setup address a multiple of 64, and frame
memory in its canonical form, which is the model's choice (log entry 1). -/
def Obligations.EveryStepKeepsTheInvariant : Prop :=
  ∀ s t : State, s.Inv → step s = .next t → t.Inv

/-- Every step keeps each scan hold the one that the backgrounds give. -/
def Obligations.EveryStepKeepsTheScanHolds : Prop :=
  ∀ s t : State, s.HoldsAgree → step s = .next t → t.HoldsAgree

/-- Frame memory changes in one way only: a step whose command is not RASTER_TRANSFER_END leaves every byte of
it as it was. -/
def Obligations.OnlyPixelTransfersWriteFrameMemory : Prop :=
  ∀ (c : Instr) (s t : State), (∀ read, c ≠ .rasterTransferEnd read) → exec c s = .next t →
    ∀ a : Nat, t.frameMemory.read a = s.frameMemory.read a

/-! ## Part control and the Host Port -/

/-- CTRL_RUN and CTRL_RESET (R191, R193, R199). RUN: from IDLE or HALTED the part becomes LOADING and the
setup read begins; a setup address above 0FFFFFF80H fails the load at once; in any other state the write
changes nothing. RESET: in every state but RESETTING the part becomes RESETTING, a setup read in flight is
to be discarded, and the reset is announced to the seven blocks. With RUN and RESET both 0 the write changes
nothing (R203). That a reset drops the fatal faults still on their way, and that a halt announcement not yet
taken and the reset's are one, is the model's inference (log entries 20 and 27). -/
def Obligations.CtrlWritesBeginALoadOrAReset : Prop :=
  ∀ (s : State) (v : Word),
    (v.getLsbD 0 = true → v.getLsbD 1 = false →
      ((s.part = .idle ∨ s.part = .halted) → s.host.setupAddr.toNat ≤ 0xFFFFFF80 →
        exec (.ctrlRun v) s = .next (s.withHost { s.host with
          part := .loading, origin := if s.part = .idle then .idle else .halted,
          setupRead := some ⟨s.host.setupAddr.toNat, false⟩, setupData := none })) ∧
      ((s.part = .idle ∨ s.part = .halted) → 0xFFFFFF80 < s.host.setupAddr.toNat →
        exec (.ctrlRun v) s = .next (s.withHost { s.host with
          part := .halted, origin := .none, fault := .setupInvalid, faultDetail := 0, setupData := none,
          evt := s.host.evt ||| Event.halt.bit })) ∧
      ((s.part = .loading ∨ s.part = .running ∨ s.part = .resetting) → exec (.ctrlRun v) s = .next s)) ∧
    (v.getLsbD 1 = true →
      (s.part ≠ .resetting →
        exec (.ctrlReset v) s = .next ((s.withHost { s.host with
          part := .resetting, origin := .none, setupData := none,
          setupRead := s.host.setupRead.map fun x => ⟨x.addr, true⟩ }).withTransit
            { s.transit with halts := HaltNotices.all, faults := [] })) ∧
      (s.part = .resetting → exec (.ctrlReset v) s = .next s)) ∧
    (v.getLsbD 0 = false → v.getLsbD 1 = false →
      exec (.ctrlRun v) s = .next s ∧ exec (.ctrlReset v) s = .next s)

/-- SETUP_WRITE (R192): in IDLE and HALTED the setup address becomes the value with its low six bits 0; in every
other state nothing changes. A read of SETUP returns the setup address, and a load reads the block there. -/
def Obligations.SetupWriteSetsTheSetupAddress : Prop :=
  ∀ (s : State) (v : Word),
    (∃ t, exec (.setupWrite v) s = .next t ∧ t = s.withHost { s.host with setupAddr := t.host.setupAddr } ∧
      ((s.part = .idle ∨ s.part = .halted) → t.host.setupAddr.toNat = v.toNat / 64 * 64) ∧
      ((s.part = .loading ∨ s.part = .running ∨ s.part = .resetting) → t = s)) ∧
    s.readRegister .setup = s.host.setupAddr ∧
    ((s.part = .idle ∨ s.part = .halted) → v.getLsbD 0 = true → v.getLsbD 1 = false →
      s.host.setupAddr.toNat ≤ 0xFFFFFF80 →
      ∃ t, exec (.ctrlRun v) s = .next t ∧ t.host.setupRead = some ⟨s.host.setupAddr.toNat, false⟩ ∧
        t.host.setupAddr = s.host.setupAddr)

/-- EVT_WRITE, EVTEN_WRITE and IGNORED_REGISTER_WRITE (R171, R172, R203): each event bit written 1 is cleared
and every other kept; the enable bits become the value's; the interrupt line is asserted exactly while some bit
is set in both; a write of fewer than 32 bits, to STAT or FCNT, or during RESETTING changes nothing. -/
def Obligations.EventWritesAndIgnoredWrites : Prop :=
  ∀ (s : State) (v : Word),
    (s.interruptLine = true ↔ ∃ i < 4, s.host.evt.getLsbD i = true ∧ s.host.evten.getLsbD i = true) ∧
    (s.part ≠ .resetting →
      (∃ t, exec (.evtWrite v) s = .next t ∧ t = s.withHost { s.host with evt := t.host.evt } ∧
        ∀ i < 4, t.host.evt.getLsbD i = (s.host.evt.getLsbD i && !v.getLsbD i)) ∧
      (∃ t, exec (.evtenWrite v) s = .next t ∧ t = s.withHost { s.host with evten := t.host.evten } ∧
        ∀ i < 4, t.host.evten.getLsbD i = v.getLsbD i)) ∧
    (s.part = .resetting → exec (.evtWrite v) s = .next s ∧ exec (.evtenWrite v) s = .next s) ∧
    (∀ (reg : Register) (size : AccessSize),
      size ≠ .bits32 ∨ reg = .stat ∨ reg = .fcnt ∨ s.part = .resetting →
        exec (.ignoredRegisterWrite reg size v) s = .next s)

/-- RREL_WRITE (R170): a RUNNING part accepts an index inside the ring that passes no more than the written
entries, and then serves its reports; it refuses every other with EVT.PROTOCOL alone, as the part does in IDLE,
LOADING and HALTED; during RESETTING nothing changes. -/
def Obligations.RrelWriteMovesTheReleaseIndex : Prop :=
  ∀ (s : State) (v : Word),
    let u := s.report
    let i := (v.extractLsb' 0 16).toNat
    let free := i < u.size ∧
      forward u.size u.releaseIndex i ≤ forward u.size u.releaseIndex u.writeIndex
    (s.part = .running → free →
      exec (.rrelWrite v) s = .next (s.withReport { u with releaseIndex := i }).serveReports) ∧
    (s.part = .running → ¬free → exec (.rrelWrite v) s = .next (s.withHost { s.host with
      evt := s.host.evt ||| Event.protocol.bit })) ∧
    ((s.part = .idle ∨ s.part = .loading ∨ s.part = .halted) →
      exec (.rrelWrite v) s = .next (s.withHost { s.host with evt := s.host.evt ||| Event.protocol.bit })) ∧
    (s.part = .resetting → exec (.rrelWrite v) s = .next s)

/-- The four RCMD commands (R134): a write is refused, with EVT.PROTOCOL alone, while the part is IDLE, LOADING
or HALTED, and for a ring outside 0..3, an UNUSED ring or an operation that is none of the four; during
RESETTING it changes nothing. A write of no known operation is POST's row (the model's choice, log entry 8). -/
def Obligations.RefusedRcmdWritesSetProtocolAlone : Prop :=
  ∀ (s : State) (v : Word) (c : Instr),
    c = .rcmdPost v ∨ c = .rcmdStop v ∨ c = .rcmdResume v ∨ c = .rcmdFlush v →
    ((s.part = .idle ∨ s.part = .loading ∨ s.part = .halted ∨
        (s.part = .running ∧ (4 ≤ (v.extractLsb' 0 4).toNat ∨ 4 ≤ (rcmdOperation v).toNat ∨
          ∃ r, rcmdRing v = some r ∧ (s.ring r).state = .unused))) →
      exec c s = .next (s.withHost { s.host with evt := s.host.evt ||| Event.protocol.bit })) ∧
    (s.part = .resetting → exec c s = .next s)

/-- RCMD_POST (R135): with D, B and C the forward distances from done to head, head to post and head to the
index written, the POST is accepted when the index lies in the ring, C is at least B and D + C is at most size
minus 1; post then becomes the index and the arbiter may grant a fetch. Otherwise it is refused. -/
def Obligations.PostMovesThePostIndexForward : Prop :=
  ∀ (s : State) (v : Word) (r : RingId), s.part = .running → rcmdOperation v = 0 → rcmdRing v = some r →
    (s.ring r).state ≠ .unused →
    let k := s.ring r
    let i := (v.extractLsb' 16 16).toNat
    let accepted := i < k.size ∧ forward k.size k.head k.post ≤ forward k.size k.head i ∧
      forward k.size k.done k.head + forward k.size k.head i ≤ k.size - 1
    (accepted →
      exec (.rcmdPost v) s = .next (s.modRing r fun k => { k with post := i }).grantFetch) ∧
    (¬accepted → exec (.rcmdPost v) s = .next (s.withHost { s.host with
      evt := s.host.evt ||| Event.protocol.bit }))

/-- RCMD_STOP and RCMD_RESUME (R136, R137, R139). STOP: an ACTIVE ring in phase IDLE becomes STOPPED, one in
another phase STOPPING, and a WAIT, WAIT_FRAME or PRESENT in service is asked to be cancelled; in every other
state the STOP changes nothing. RESUME: a STOPPING, STOPPED or FAULTED ring becomes ACTIVE, and a fetch may be
granted; on an ACTIVE ring it is refused. -/
def Obligations.StopAndResumeSetTheRingState : Prop :=
  ∀ (s : State) (v : Word) (r : RingId), s.part = .running → rcmdRing v = some r →
    let k := s.ring r
    let serves (kind : Kind) := k.phase = .serving ∧ k.service.map (·.kind) = some kind
    let active := (s.modRing r fun k => { k with state := .active }).statusDue r
    (rcmdOperation v = 1 →
      (k.state = .active → k.phase = .idle →
        exec (.rcmdStop v) s = .next ((s.modRing r fun k => { k with state := .stopped }).statusDue r)) ∧
      (k.state = .active → k.phase ≠ .idle →
        ∃ t, exec (.rcmdStop v) s =
            .next (((s.withTransit t).modRing r fun k => { k with state := .stopping }).statusDue r) ∧
          t = { s.transit with syncCancel := t.syncCancel, presentCancel := t.presentCancel } ∧
          (∀ q : RingId, t.syncCancel[q] =
            (s.transit.syncCancel[q] || decide (q = r ∧ (serves .wait ∨ serves .waitFrame)))) ∧
          (∀ q : RingId, t.presentCancel[q] =
            (s.transit.presentCancel[q] || decide (q = r ∧ serves .present)))) ∧
      (k.state = .stopping ∨ k.state = .stopped ∨ k.state = .faulted → exec (.rcmdStop v) s = .next s)) ∧
    (rcmdOperation v = 2 →
      (k.state = .stopping ∨ k.state = .stopped ∨ k.state = .faulted →
        exec (.rcmdResume v) s = .next active.grantFetch) ∧
      (k.state = .active → exec (.rcmdResume v) s = .next (s.withHost { s.host with
        evt := s.host.evt ||| Event.protocol.bit })))

/-- RCMD_FLUSH (R140): on a STOPPED or FAULTED ring in phase IDLE, head and done become post, the skip flag is
cleared, the group position becomes 0, the ring is STOPPED, a status write falls due, and where entries were
discarded a FLUSH report of their number falls due; on any other ring it is refused. -/
def Obligations.FlushDiscardsTheUnfetchedEntries : Prop :=
  ∀ (s : State) (v : Word) (r : RingId), s.part = .running → rcmdOperation v = 3 → rcmdRing v = some r →
    (s.ring r).state ≠ .unused →
    let k := s.ring r
    let count := forward k.size k.head k.post
    let t := (s.modRing r fun k =>
      { k with head := k.post, done := k.post, skip := false, position := 0, state := .stopped }).statusDue r
    let mayFlush := (k.state = .stopped ∨ k.state = .faulted) ∧ k.phase = .idle
    (mayFlush → count = 0 → exec (.rcmdFlush v) s = .next t) ∧
    (mayFlush → 1 ≤ count →
      exec (.rcmdFlush v) s = .next (t.offerRingReport r
        { index := k.done, kind := 0, status := .flushed, tag := 0, position := 0, skipped := 0,
          openGroup := false, detailA := BitVec.ofNat 16 count, detailB := 0, after := .flushed })) ∧
    (¬mayFlush → exec (.rcmdFlush v) s = .next (s.withHost { s.host with
      evt := s.host.evt ||| Event.protocol.bit }))

/-! ## Setup loads, faults and halts -/

/-- SETUP_LOAD_END, the load that passes its checks (R131, R174, R195): the part is RUNNING without fault, each
ring starts at index 0 as its descriptor gives it, ACTIVE with the status word write {done 0, ACTIVE} in flight
or UNUSED where its exponent is 0, the report ring starts at index 0 with lap 1, the holds follow the
backgrounds, and the glyph store, counters, engine and frame are kept. That a load also waits for the
announcements of a halt is the model's inference (log entry 16). -/
def Obligations.SetupLoadStartsThePart : Prop :=
  ∀ (s : State) (block : List Byte), s.part = .loading → s.host.setupData = some (.ok block) →
    s.drained = true → s.transit.halts = HaltNotices.none → setupFails block s.presentation.state = none →
    ∃ t, exec .setupLoadEnd s = .next t ∧
      (t.host = { s.host with
        part := .running, fault := .none, faultDetail := 0, origin := .none, setupData := none }) ∧
      (∀ n : RingId, (ringDescriptorAt block n.1).exponent = 0 → t.ring n = Ring.unused) ∧
      (∀ n : RingId, (ringDescriptorAt block n.1).exponent ≠ 0 →
        let d := ringDescriptorAt block n.1
        (t.ring n).base = d.base ∧ (t.ring n).size = 2 ^ d.exponent ∧ (t.ring n).state = .active ∧
        (t.ring n).phase = .idle ∧ (t.ring n).post = 0 ∧ (t.ring n).head = 0 ∧ (t.ring n).done = 0 ∧
        (t.ring n).cls = (if d.cls = 1 then .urgent else .normal) ∧
        (t.ring n).statusWrite = .inFlight ⟨d.statusAddr.toNat, 0x00010000⟩) ∧
      t.intake.lastServed = 3 ∧ t.report.base = reportBaseOf block ∧
      t.report.size = 2 ^ reportExponentOf block ∧ t.report.writeIndex = 0 ∧ t.report.releaseIndex = 0 ∧
      t.report.lap = true ∧ t.presentation = s.presentation.loaded block ∧ t.presentation.state = .running ∧
      t.glyph = s.glyph ∧ (∀ n, t.surfaceAt n = { s.surfaceAt n with hold := t.presentation.holdOf n }) ∧
      t.sync = s.sync ∧ t.raster = s.raster ∧
      t.frame = s.frame ∧ t.frameMemory = s.frameMemory

/-- SETUP_READ_END, and the load that fails (R193, R194, R196). A discarded setup read is dropped; another one's
data are kept, the part staying LOADING until every transfer has ended and the Raster Engine is IDLE, and then
ending the load. A failing load makes the part HALTED with SETUP_BUS, or with SETUP_INVALID and the number of a
field that fails while every field with a lower number passes: fields 1 to 16 of the rings, 17 and 18 of the
report ring, and 19 to 27 while the Presentation Unit is OFF; every other block stays as it was. That a load
also waits for the announcements of a halt is the model's inference (log entry 16). -/
def Obligations.SetupReadEndsAndFailuresHaltThePart : Prop :=
  (∀ (s : State) (read : ReadEnd) (x : SetupRead), s.host.setupRead = some x →
    (x.discarded = true →
      exec (.setupReadEnd read) s = .next (s.withHost { s.host with setupRead := none })) ∧
    (x.discarded = false → s.part = .loading →
      let s' := s.withHost { s.host with setupRead := none, setupData := some read }
      (s'.drained = false → exec (.setupReadEnd read) s = .next s') ∧
      (s'.drained = true → s.transit.halts = HaltNotices.none →
        exec (.setupReadEnd read) s = exec .setupLoadEnd s'))) ∧
  (∀ (s : State) (read : ReadEnd), s.part = .loading → s.host.setupData = some read → s.drained = true →
    s.transit.halts = HaltNotices.none →
    let failed (fault : FaultCode) (detail : Nat) := s.withHost { s.host with
      part := .halted, fault := fault, faultDetail := detail, origin := .none, setupData := none,
      evt := s.host.evt ||| Event.halt.bit }
    (read = .busError → exec .setupLoadEnd s = .next (failed .setupBus 0)) ∧
    (∀ (block : List Byte) (n : Nat), read = .ok block → setupFails block s.presentation.state = some n →
      exec .setupLoadEnd s = .next (failed .setupInvalid n))) ∧
  ∀ (block : List Byte) (u : PresentationState) (n : Nat),
    let fields := ringFieldFails block 0 ++ ringFieldFails block 1 ++ ringFieldFails block 2 ++
      ringFieldFails block 3 ++ reportFieldFails block ++ (if u = .off then panelFieldFails block else [])
    setupFails block u = some n ↔ (n, true) ∈ fields ∧ ∀ m < n, (m, true) ∉ fields

/-- FATAL_FAULT (R197): a RUNNING part becomes HALTED with the fault's code and detail and EVT.HALT, and the
halt is announced to the seven blocks; a fault that finds the part not RUNNING raises none. That faults still on
their way when another one halts the part are dropped is the model's inference (log entry 20). -/
def Obligations.FatalFaultHaltsThePart : Prop :=
  ∀ (s : State) (f : FatalFault), f ∈ s.transit.faults →
    (s.part = .running → exec (.fatalFault f) s = .next ((s.withHost { s.host with
      part := .halted, evt := s.host.evt ||| Event.halt.bit,
      fault := match f with | .reportBus => .reportBus | .statusBus _ => .statusBus
      faultDetail := match f with | .reportBus => 0 | .statusBus r => r.1 }).withTransit
        { s.transit with halts := HaltNotices.all, faults := [] })) ∧
    (s.part ≠ .running → exec (.fatalFault f) s =
      .next (s.withTransit { s.transit with faults := s.transit.faults.erase f }))

/-- INTAKE_HALT_ANNOUNCEMENT (R158): every ring is IDLE with no entry in service, no walk, no report due and no
fault mark, a status write that was due is dropped while one in flight runs on, and state, indexes, group
position and skip flag are kept. -/
def Obligations.IntakeHaltDropsTheWorkInHand : Prop :=
  ∀ s : State, s.transit.halts.intake = true →
    ∃ t, exec .intakeHaltAnnouncement s = .next t ∧
      t = (s.withIntake { s.intake with rings := t.intake.rings }).withTransit t.transit ∧
      (∀ r : RingId, t.ring r = { s.ring r with
        phase := .idle, service := none, walk := none, reportDue := none, faultMark := false,
        statusWrite := (t.ring r).statusWrite }) ∧
      (∀ (r : RingId) (w : StatusTransfer),
        (s.ring r).statusWrite = .inFlightAndDue w → (t.ring r).statusWrite = .inFlight w) ∧
      (∀ r : RingId, (∀ w, (s.ring r).statusWrite ≠ .inFlightAndDue w) →
        (t.ring r).statusWrite = (s.ring r).statusWrite) ∧
      t.transit.halts = { s.transit.halts with intake := false }

/-- The halt announcements of the six blocks besides the Intake Unit (R29, R53, R87, R128, R175, R187): the
report buffer and the ring class are emptied; the waits are abandoned with the counters kept, and the present
queue with the pending background kept; the Glyph Table's entries, requests and waits go, and a fill in progress
runs on unanswered; an edit in service is withdrawn and unpinned with the lanes kept; a drawing operation goes
on to the end of its row, and another one is abandoned with its marks cleared. Nothing is answered. -/
def Obligations.HaltsDropTheWorkOfTheBlocks : Prop :=
  ∀ s : State,
    (s.transit.halts.report = true →
      exec .reportUnitHaltAnnouncement s =
        .next ((s.withReport { s.report with buffer := [], ringClass := [] }).withTransit
          { s.transit with halts := { s.transit.halts with report := false } })) ∧
    (s.transit.halts.sync = true →
      ∃ t, exec .syncTableHaltAnnouncement s =
          .next ((s.withSync { s.sync with waiters := [], frameWaits := [] }).withTransit t) ∧
        t.answers = s.transit.answers ∧ t.laneAdditions = s.transit.laneAdditions ∧
        t.halts = { s.transit.halts with sync := false }) ∧
    (s.transit.halts.presentation = true →
      ∃ t, exec .presentationHaltAnnouncement s =
          .next ((s.withPresentation { s.presentation with
            queue := [], pending := s.presentation.pending.map fun p => ⟨p.background, none⟩ }).withTransit t) ∧
        t.answers = s.transit.answers ∧ t.halts = { s.transit.halts with presentation := false }) ∧
    (s.transit.halts.glyph = true →
      let g := s.glyph
      ∃ t, exec .glyphTableHaltAnnouncement s = .next t ∧ t = (s.withGlyph t.glyph).withTransit t.transit ∧
        t.glyph = { g with
          service := none, entries := [], staging := none, defineRead := none,
          lostReads := g.lostReads ++ g.defineRead.toList,
          queue := g.queue.filter fun q => !(q.who == .preload || q.who == .define),
          fetch := g.fetch.map fun f =>
            if f.who = some .preload ∨ f.who = some .define then { f with who := none } else f,
          slots := t.glyph.slots } ∧
        (∀ n : SlotId, t.glyph.slots[n] = { g.slots[n] with
          waiters := g.slots[n].waiters.filter fun w => !(w == .preload || w == .define), defineWait := false }) ∧
        t.transit.answers = s.transit.answers ∧ t.transit.halts = { s.transit.halts with glyph := false }) ∧
    (s.transit.halts.lane = true → s.lane.service = none →
      ∃ t, exec .laneUnitHaltAnnouncement s = .next ((s.withLane { s.lane with entries := [] }).withTransit t) ∧
        t.answers = s.transit.answers ∧ t.halts = { s.transit.halts with lane := false }) ∧
    (∀ v, s.transit.halts.lane = true → s.lane.service = some v →
      let g := if v.current = none then s.glyph else s.glyph.withdraw .laneEdit
      ∃ t, exec .laneUnitHaltAnnouncement s =
          .next (((s.withGlyph (GlyphTable.unpinAll (s.lane.staging.map fun c => c.cell.slot) g)).withLane
            { s.lane with
              staging := [], service := none, entries := [],
              lostReads := s.lane.lostReads ++ v.read.toList }).withTransit t) ∧
        t.answers = s.transit.answers ∧ t.halts = { s.transit.halts with lane := false }) ∧
    (s.transit.halts.raster = true → s.raster.step = .drawing →
      ∃ t, exec .rasterHaltAnnouncement s =
          .next ((s.withRaster { s.raster with finishing := true }).withTransit t) ∧
        t.answers = s.transit.answers ∧ t.halts = { s.transit.halts with raster := false }) ∧
    (∀ c, s.transit.halts.raster = true → s.raster.step ≠ .drawing → s.raster.service = some c →
      s.raster.stamp = none →
      let a := c.entry.rasterArgs
      let list := s.raster.step = .readingList ∨ s.raster.step = .none
      ∃ t, exec .rasterHaltAnnouncement s = .next t ∧
        t = (((s.withGlyph (if list then s.glyph else s.glyph.withdraw .text)).withSurfaces t.surfaces).withRaster
          { RasterEngine.idle with
            lostReads := s.raster.lostReads ++ (if list then s.raster.codeRead.toList else []) }).withTransit
              t.transit ∧
        (∀ n, t.surfaceAt n = { s.surfaceAt n with
          mark := (s.surfaceAt n).mark && !decide (a.dst = some n ∨ a.src = some n) }) ∧
        t.transit.answers = s.transit.answers ∧ t.transit.halts = { s.transit.halts with raster := false })

/-! ## Frame starts and presentation -/

/-- BLINK_PHASE_TOGGLE and the blink classes (R67): a class whose countdown has reached 0 changes phase and
reloads its countdown with the frames of the phase it enters, also where the row is commanded alone (the model's
choice, log entry 4); from the load on, the phase at the n-th frame start is ON for the first on-frames of every
on-frames + off-frames frames. -/
def Obligations.BlinkPhasesLastTheirFrames : Prop :=
  (∀ (s : State) (b : BlinkId), s.presentation.state = .running →
    let k := s.presentation.blink[b]
    let classTo (k' : BlinkClass) := s.withPresentation { s.presentation with
      blink := update s.presentation.blink b k' }
    (k.countdown = 0 → k.phase = .on → exec (.blinkPhaseToggle b) s =
      .next (classTo { k with phase := .off, countdown := k.offFrames })) ∧
    (k.countdown = 0 → k.phase = .off → exec (.blinkPhaseToggle b) s =
      .next (classTo { k with phase := .on, countdown := k.onFrames })) ∧
    (k.countdown ≠ 0 → exec (.blinkPhaseToggle b) s = .next s)) ∧
  ∀ onFrames offFrames n : Nat, 1 ≤ onFrames → 1 ≤ offFrames → 1 ≤ n →
    ((BlinkClass.frame^[n] (startedBlink onFrames offFrames)).phase = .on ↔
      (n - 1) % (onFrames + offFrames) < onFrames)

/-- FRAME_START without a pending background, and HOST_PORT_FRAME_START (R74 to R77, R173): the frame counter
goes up by 1 modulo 2^32, each blink class counts down, and the frame start is announced to the three blocks; an
OFF unit has no frame start. The Host Port copies the oldest announced number into FCNT and sets EVT.FRAME. That
the announcement to the Lane Unit carries the background of the frame that begins is the model's inference (log
entry 23). -/
def Obligations.FrameStartAdvancesTheFrame : Prop :=
  ∀ s : State,
    (s.presentation.state = .running → s.presentation.pending = none →
      ∃ t, exec .frameStart s = .next t ∧
        t = (s.withPresentation { s.presentation with
            frameCounter := s.presentation.frameCounter + 1, blink := t.presentation.blink }).withTransit
          { s.transit with
            laneFrames := s.transit.laneFrames ++
              [⟨mapTable BlinkClass.phase t.presentation.blink, s.shownBackground⟩],
            syncFrames := s.transit.syncFrames + 1,
            hostFrames := s.transit.hostFrames ++ [s.presentation.frameCounter + 1] } ∧
        ∀ b : BlinkId,
          let k := s.presentation.blink[b]
          t.presentation.blink[b] =
            if 1 < k.countdown then { k with countdown := k.countdown - 1 }
            else if k.phase = .on then { k with phase := .off, countdown := k.offFrames }
            else { k with phase := .on, countdown := k.onFrames }) ∧
    (s.presentation.state = .off → exec .frameStart s = .next s) ∧
    (∀ number rest, s.transit.hostFrames = number :: rest →
      exec .hostPortFrameStart s =
        .next ((s.withHost { s.host with fcnt := number, evt := s.host.evt ||| Event.frame.bit }).withTransit
          { s.transit with hostFrames := rest }))

/-- FRAME_START with a pending background (R67, R75, R77, R78, R81): the frame counter goes up by 1; the
pending background becomes front and its PRESENT is answered OK; of the present queue the heads that fail
their second check are answered with their status, and the first that passes becomes pending; the holds
follow the backgrounds; each blink class counts down; and the frame start is announced to the three blocks.
That the announcement to the Lane Unit carries the new front background is the model's inference (log entry
23). -/
def Obligations.FrameStartMakesThePendingBackgroundFront : Prop :=
  ∀ (s : State) (p : PendingBackground) (failed rest : List RingEntry),
    s.presentation.state = .running → s.presentation.pending = some p →
    s.presentation.queue = failed ++ rest →
    (∀ f ∈ failed, ∃ status, s.checkPresent f.entry = .error status) →
    (∀ e ∈ rest.head?, ∃ b, s.checkPresent e.entry = .ok b) →
    ∃ t, exec .frameStart s = .next t ∧ t.presentation.front = p.background ∧
      (rest = [] → t.presentation.pending = none ∧ t.presentation.queue = []) ∧
      (∀ e later b, rest = e :: later → s.checkPresent e.entry = .ok b →
        t.presentation.pending = some ⟨b, some e.ring⟩ ∧ t.presentation.queue = later) ∧
      (∀ n, t.surfaceAt n = { s.surfaceAt n with hold := t.presentation.holdOf n }) ∧
      (∀ r : RingId, (∀ f ∈ failed, f.ring ≠ r) → t.transit.answers[r] =
        if p.ring = some r ∧ (s.ring r).awaitsAnswer = true then some .done else s.transit.answers[r]) ∧
      (∀ f status, f ∈ failed → s.checkPresent f.entry = .error status →
        (∀ g ∈ failed, g.ring = f.ring → g = f) → (s.ring f.ring).awaitsAnswer = true →
        t.transit.answers[f.ring] = some (.failed status)) ∧
      (∀ b : BlinkId,
        let k := s.presentation.blink[b]
        t.presentation.blink[b] =
          if 1 < k.countdown then { k with countdown := k.countdown - 1 }
          else if k.phase = .on then { k with phase := .off, countdown := k.offFrames }
          else { k with phase := .on, countdown := k.onFrames }) ∧
      t = ((s.withPresentation { s.presentation with
          frameCounter := s.presentation.frameCounter + 1, front := p.background,
          pending := t.presentation.pending, queue := t.presentation.queue,
          blink := t.presentation.blink }).withSurfaces t.surfaces).withTransit
        { s.transit with
          answers := t.transit.answers,
          laneFrames := s.transit.laneFrames ++
            [⟨mapTable BlinkClass.phase t.presentation.blink, t.shownBackground⟩],
          syncFrames := s.transit.syncFrames + 1,
          hostFrames := s.transit.hostFrames ++ [s.presentation.frameCounter + 1] }

/-- PRESENT (R79, R80, R87): the checks in their order, each failure answered without any other effect; a
PRESENT that passes becomes the pending background, or joins the present queue where one is pending. None is
taken while the part is not RUNNING; for LOADING and RESETTING that is the model's inference (log entry 38). -/
def Obligations.PresentTakesABackground : Prop :=
  (∀ (s : State) (r : RingId), s.part ≠ .running → exec (.present r) s = .next s) ∧
  ∀ (s : State) (r : RingId) (e : WorkEntry), s.part = .running → s.waitsAt r e → e.kind = some .present →
    let named := e.u8 0x04
    let passes (b : Background) :=
      (s.presentation.pending = none → exec (.present r) s =
        .next ((s.clearHandover r).withBackgrounds { s.presentation with pending := some ⟨b, some r⟩ })) ∧
      (s.presentation.pending ≠ none → exec (.present r) s =
        .next ((s.clearHandover r).withPresentation { s.presentation with
          queue := s.presentation.queue ++ [⟨r, e⟩] }))
    (16 ≤ named ∧ named ≠ 0xFF → exec (.present r) s = .next (s.answered r (.failed .badOperand))) ∧
    (named = 0xFF → passes (.blank (e.byte 0x05))) ∧
    (∀ n : SurfaceId, named = n.1 →
      let k := s.surfaceAt n
      let inside := e.u16 0x06 + s.presentation.panelWidth ≤ k.width ∧
        e.u16 0x08 + s.presentation.panelHeight ≤ k.height
      (k.state = .unset → exec (.present r) s = .next (s.answered r (.failed .notSet))) ∧
      (k.state = .set → k.space = .host ∨ k.depth ≠ 8 ∨ ¬inside →
        exec (.present r) s = .next (s.answered r (.failed .badOperand))) ∧
      (k.state = .set → k.space = .loc → k.depth = 8 → inside →
        passes (.view n (e.u16 0x06) (e.u16 0x08))))

/-! ## Lane motion at frame starts -/

/-- LANE_FRAME_START (R56 to R60, R83): each lane moves by its own record alone. A lane that is UNSET, not
MOVING, FIXED or without content stays; a countdown above 1 goes down by 1; one that reaches 0 is reloaded while
the offset takes its next place, and an arrival at 0 completes a pass. The frame that begins shows the lanes as
they then stand. Pending event records are apart. The frame as a record of what it shows is the model's own (log
entry 23). -/
def Obligations.LaneFrameStartMovesEachLane : Prop :=
  ∀ (s : State) (notice : FrameNotice) (later : List FrameNotice), s.transit.laneFrames = notice :: later →
    ∃ t, exec .laneFrameStart s = .next t ∧
      (∀ l : LaneId,
        let k := s.laneAt l
        let moved := { t.laneAt l with record := k.record }
        let moves := k.state = .set ∧ k.motion = .moving ∧ k.settings.mode ≠ .fixed ∧ 0 < s.cycleOf k
        let place := if k.settings.mode = .step then k.nextStop (s.advanceOf k) k.offset
          else if k.settings.direction = .leftward then (k.offset + 1) % s.cycleOf k
          else (k.offset + s.cycleOf k - 1) % s.cycleOf k
        let loaded := if k.settings.mode = .step then k.settings.hold else k.settings.interval
        let passes := min 65535 (k.passCount + 1)
        (¬moves → moved = k) ∧
        (moves → 1 < k.countdown → moved = { k with countdown := k.countdown - 1 }) ∧
        (moves → k.countdown ≤ 1 → place ≠ 0 → moved = { k with countdown := loaded, offset := place }) ∧
        (moves → k.countdown ≤ 1 → place = 0 → 0 < k.settings.repeats → passes = k.settings.repeats →
          moved = { k with motion := .still, countdown := 0, offset := 0, passCount := passes }) ∧
        (moves → k.countdown ≤ 1 → place = 0 → ¬(0 < k.settings.repeats ∧ passes = k.settings.repeats) →
          moved = { k with countdown := loaded, offset := 0, passCount := passes })) ∧
      t.frame = some (t.snapshot notice) ∧ t.transit.laneFrames = later ∧
      t = (((s.withReport t.report).withLane { s.lane with lanes := t.lane.lanes }).withTransit
        t.transit).withFrame t.frame

/-- MARQUEE_STEP and STEP_JUMP (R55, R57, R58): a lane whose countdown stands at 0 steps one pixel, or jumps to
the next stop, with its countdown reloaded; an arrival at 0 completes a pass. The stops are the multiples k ×
advance, k from 0 to the cell count, below L; LEFTWARD takes the smallest stop above the offset, or 0; RIGHTWARD
the greatest below it, or from 0 the greatest of all. The rows are parts of a frame start, and act alone where
their cause stands (the model's choice, log entry 4). -/
def Obligations.StepsAndJumpsMoveOneLane : Prop :=
  (∀ (s : State) (l : LaneId),
    let k := s.laneAt l
    k.state = .set → k.motion = .moving → 0 < s.cycleOf k → k.countdown = 0 →
    let moved (loaded place : Nat) := s.modLane l fun k => { k with countdown := loaded, offset := place }
    let step := if k.settings.direction = .leftward then (k.offset + 1) % s.cycleOf k
      else (k.offset + s.cycleOf k - 1) % s.cycleOf k
    let jump := k.nextStop (s.advanceOf k) k.offset
    (k.settings.mode = .marquee → step ≠ 0 →
      exec (.marqueeStep l) s = .next (moved k.settings.interval step)) ∧
    (k.settings.mode = .marquee → step = 0 →
      exec (.marqueeStep l) s = .next ((moved k.settings.interval 0).completePass l)) ∧
    (k.settings.mode = .step → jump ≠ 0 →
      exec (.stepJump l) s = .next (moved k.settings.hold jump)) ∧
    (k.settings.mode = .step → jump = 0 →
      exec (.stepJump l) s = .next ((moved k.settings.hold 0).completePass l))) ∧
  ∀ (k : Lane) (advance p : Nat), 0 < k.cycle advance →
    let next := k.nextStop advance p
    (∀ x, x ∈ k.stops advance ↔ (∃ i ≤ k.cells.length, x = i * advance) ∧ x < k.cycle advance) ∧
    next ∈ k.stops advance ∧
    (k.settings.direction = .leftward → (∃ x ∈ k.stops advance, p < x) →
      p < next ∧ ∀ x ∈ k.stops advance, p < x → next ≤ x) ∧
    (k.settings.direction = .leftward → (∀ x ∈ k.stops advance, x ≤ p) → next = 0) ∧
    (k.settings.direction = .rightward → 0 < p → next < p ∧ ∀ x ∈ k.stops advance, x < p → x ≤ next) ∧
    (k.settings.direction = .rightward → p = 0 → ∀ x ∈ k.stops advance, x ≤ next)

/-- A completed pass (R60 to R62, R164): the pass count goes up by 1 to at most 65,535, and the done pass brings
the lane to rest; a pass that makes no event sends and offers nothing; one that makes an event sends one
addition to the signal counter, merges into a pending event record, is taken into the report buffer where the
part is RUNNING, the buffer has room and both classes are empty, and otherwise creates a record, for which the
arbiter then grants as it may; with a full buffer and a write in flight the record stays. -/
def Obligations.CompletedPassesMakeLaneEvents : Prop :=
  ∀ (s : State) (l : LaneId),
    let k := s.laneAt l
    let t := s.completePass l
    let passes := min 65535 (k.passCount + 1)
    let isDone := 0 < k.settings.repeats ∧ passes = k.settings.repeats
    let event := k.settings.events = .eachPass ∨ (k.settings.events = .done ∧ isDone)
    (isDone → { t.laneAt l with record := k.record } =
      { k with motion := .still, countdown := 0, offset := 0, passCount := passes }) ∧
    (¬isDone → { t.laneAt l with record := k.record } = { k with passCount := passes }) ∧
    (¬event → t.report = s.report ∧ t.transit = s.transit ∧ (t.laneAt l).record = k.record) ∧
    (event → t.transit.laneAdditions = s.transit.laneAdditions ++ k.settings.signal.toList) ∧
    (∀ rec, event → k.record = some rec → t.report = s.report ∧
      (t.laneAt l).record = some ⟨min 65535 (rec.passes + 1), rec.done || decide isDone⟩) ∧
    (event → k.record = none → s.part ≠ .running → t.report = s.report ∧
      (t.laneAt l).record = some ⟨1, decide isDone⟩) ∧
    (event → s.part = .running → s.report.buffer.length < 8 → s.report.ringClass = [] →
      (∀ m, (s.laneAt m).record = none) → (t.laneAt l).record = none ∧
        t.report.write.toList ++ t.report.buffer = s.report.write.toList ++ s.report.buffer ++
          [{ lap := s.report.nextLap, source := .lane l, openGroup := false,
             status := if isDone then .laneDone else .lanePass, tag := 0, index := 0, kind := 0, position := 0,
             skipped := 0, detailA := 1, detailB := BitVec.ofNat 16 passes,
             frame := s.presentation.frameCounter.extractLsb' 0 16 }]) ∧
    (event → k.record = none → s.part = .running →
      8 ≤ s.report.buffer.length ∨ s.report.ringClass ≠ [] ∨ (∃ m, (s.laneAt m).record ≠ none) →
        t = ((s.withTransit { s.transit with
          laneAdditions := s.transit.laneAdditions ++ k.settings.signal.toList }).modLane l fun k =>
            if isDone then { k with
              motion := .still, countdown := 0, offset := 0, passCount := passes, record := some ⟨1, true⟩ }
            else { k with passCount := passes, record := some ⟨1, false⟩ }).serveReports) ∧
    (event → k.record = none → s.part = .running → s.report.buffer.length = 8 → s.report.write ≠ none →
      t.report = s.report ∧ (t.laneAt l).record = some ⟨1, decide isDone⟩)

/-! ## Counters and waits -/

/-- SIGNAL_ADD, SIGNAL_SET and LANE_ADDITION (R178 to R181, R183): ADD saturates at 0FFFFFFFFH, SET replaces, a
lane addition adds 1; every waiter on that counter that the new value reaches leaves the list and is answered OK
in the same handling; no other counter, waiter or frame wait changes. A counter above 15 or another operation
fails. An entry of no known operation is taken by the first row of its kind (the model's choice, log entry 8).
No SIGNAL is taken while the part is not RUNNING. -/
def Obligations.SignalsAndLaneAdditionsRetestWaiters : Prop :=
  ∀ s : State,
    let changed (t : State) (c : CounterId) (v : Word) :=
      t.sync = { s.sync with
        counters := update s.sync.counters c v,
        waiters := s.sync.waiters.filter fun w => !(w.counter == c && decide (w.value.toNat ≤ v.toNat)) }
    let met (c : CounterId) (v : Word) (q : RingId) := (s.ring q).awaitsAnswer = true ∧
      ∃ w ∈ s.sync.waiters, w.ring = q ∧ w.counter = c ∧ w.value.toNat ≤ v.toNat
    let sum (c : CounterId) (v : Word) := BitVec.ofNat 32 (min (2 ^ 32 - 1) ((s.counter c).toNat + v.toNat))
    (∀ r : RingId, s.part ≠ .running → exec (.signalAdd r) s = .next s ∧ exec (.signalSet r) s = .next s) ∧
    (∀ (r : RingId) (e : WorkEntry) (c : CounterId), s.part = .running → s.waitsAt r e →
      e.kind = some .signal → e.u8 0x04 = c.1 →
      let taken (command : Instr) (v : Word) := ∃ t, exec command s = .next t ∧ changed t c v ∧
        (∀ q : RingId, t.transit.answers[q] =
          if q = r ∨ met c v q then some .done else s.transit.answers[q]) ∧
        t = (s.withSync t.sync).withTransit { s.transit with
          handover := update s.transit.handover r none, answers := t.transit.answers }
      (e.operation = 0 → taken (.signalAdd r) (sum c (e.word 0x08))) ∧
      (e.operation = 1 → taken (.signalSet r) (e.word 0x08))) ∧
    (∀ (r : RingId) (e : WorkEntry), s.part = .running → s.waitsAt r e → e.kind = some .signal →
      (e.operation = 1 → 16 ≤ e.u8 0x04 →
        exec (.signalSet r) s = .next (s.answered r (.failed .badOperand))) ∧
      (e.operation ≠ 1 → 16 ≤ e.u8 0x04 ∨ 2 ≤ e.operation →
        exec (.signalAdd r) s = .next (s.answered r (.failed .badOperand)))) ∧
    (∀ c : CounterId, c ∈ s.transit.laneAdditions →
      ∃ t, exec (.laneAddition c) s = .next t ∧ changed t c (sum c 1) ∧
        (∀ q : RingId, t.transit.answers[q] = if met c (sum c 1) q then some .done else s.transit.answers[q]) ∧
        t = (s.withSync t.sync).withTransit { s.transit with
          laneAdditions := s.transit.laneAdditions.erase c, answers := t.transit.answers })

/-- WAIT and WAIT_FRAME (R178, R182, R183, R185): a WAIT whose counter has reached its value is answered OK at
once; any other joins the tail of the waiter list, without a countdown for timeout 0; a WAIT_FRAME joins the
frame- wait list; a counter above 15 or a frame count of 0 fails. None is taken while the part is not
RUNNING. -/
def Obligations.WaitsJoinTheirLists : Prop :=
  (∀ (s : State) (r : RingId), s.part ≠ .running →
    exec (.wait r) s = .next s ∧ exec (.waitFrame r) s = .next s) ∧
  ∀ (s : State) (r : RingId) (e : WorkEntry), s.part = .running → s.waitsAt r e →
    (e.kind = some .wait → 16 ≤ e.u8 0x04 →
      exec (.wait r) s = .next (s.answered r (.failed .badOperand))) ∧
    (∀ c : CounterId, e.kind = some .wait → e.u8 0x04 = c.1 →
      ((e.word 0x08).toNat ≤ (s.counter c).toNat → exec (.wait r) s = .next (s.answered r .done)) ∧
      ((s.counter c).toNat < (e.word 0x08).toNat → exec (.wait r) s =
        .next ((s.clearHandover r).withSync { s.sync with waiters := s.sync.waiters ++
          [⟨r, c, e.word 0x08, if e.u16 0x06 = 0 then none else some (e.u16 0x06)⟩] }))) ∧
    (e.kind = some .waitFrame → e.u16 0x06 = 0 →
      exec (.waitFrame r) s = .next (s.answered r (.failed .badOperand))) ∧
    (e.kind = some .waitFrame → e.u16 0x06 ≠ 0 → exec (.waitFrame r) s =
      .next ((s.clearHandover r).withSync { s.sync with
        frameWaits := s.sync.frameWaits ++ [⟨r, e.u16 0x06⟩] }))

/-- SYNC_FRAME_START, WAIT_TIMEOUT and FRAME_WAIT_END (R183, R185): every countdown goes down by 1; the waiters
whose countdown reaches 0 leave and answer WAIT_TIMEOUT, the frame waits whose countdown reaches 0 leave and
answer OK; no counter changes. WAIT_TIMEOUT and FRAME_WAIT_END act alone where their cause stands (the model's
choice, log entry 4). -/
def Obligations.FrameStartsEndExpiredWaits : Prop :=
  ∀ s : State,
    (∀ n, s.transit.syncFrames = n + 1 →
      ∃ t, exec .syncFrameStart s = .next t ∧
        t.sync = { s.sync with
          waiters := (s.sync.waiters.map fun w => { w with countdown := w.countdown.map (· - 1) }).filter
            fun w => w.countdown != some 0,
          frameWaits := (s.sync.frameWaits.map fun w => { w with countdown := w.countdown - 1 }).filter
            fun w => w.countdown != 0 } ∧
        (∀ q : RingId, t.transit.answers[q] =
          if (s.ring q).awaitsAnswer = true ∧ ∃ w ∈ s.sync.frameWaits, w.ring = q ∧ w.countdown ≤ 1 then
            some .done
          else if (s.ring q).awaitsAnswer = true ∧
              ∃ w ∈ s.sync.waiters, w.ring = q ∧ (w.countdown = some 1 ∨ w.countdown = some 0) then
            some (.failed .waitTimeout)
          else s.transit.answers[q]) ∧
        t = (s.withSync t.sync).withTransit { s.transit with
          syncFrames := n, answers := t.transit.answers }) ∧
    (∀ w ∈ s.sync.waiters, w.countdown = some 0 → (s.ring w.ring).awaitsAnswer = true →
      exec (.waitTimeout w.ring) s = .next ((s.withSync { s.sync with
        waiters := s.sync.waiters.filter fun v => !(v.ring == w.ring && v.countdown == some 0) }).withTransit
          { s.transit with answers := update s.transit.answers w.ring (some (.failed .waitTimeout)) })) ∧
    (∀ w ∈ s.sync.frameWaits, w.countdown = 0 → (s.ring w.ring).awaitsAnswer = true →
      exec (.frameWaitEnd w.ring) s = .next ((s.withSync { s.sync with
        frameWaits := s.sync.frameWaits.filter fun v => !(v.ring == w.ring && v.countdown == 0) }).withTransit
          { s.transit with answers := update s.transit.answers w.ring (some .done) }))

/-- SYNC_CANCEL_REQUEST and PRESENT_CANCEL_REQUEST (R186, R82), taken once the entry has been taken, an order
that the model infers (log entry 6): a record or a queued PRESENT of the ring leaves and answers CANCELLED;
where there is none, the request has no effect but to be taken. A pending background is not cancelled. -/
def Obligations.CancelRequestsEndWaits : Prop :=
  ∀ (s : State) (r : RingId), s.handedOver r = none → (s.ring r).awaitsAnswer = true →
    let cancelled (t : Transit) :=
      { t with answers := update s.transit.answers r (some (.failed .cancelled)) }
    (s.transit.syncCancel[r] = true →
      let t := { s.transit with syncCancel := update s.transit.syncCancel r false }
      let has := (∃ w ∈ s.sync.waiters, w.ring = r) ∨ ∃ w ∈ s.sync.frameWaits, w.ring = r
      (has → exec (.syncCancelRequest r) s = .next ((s.withSync { s.sync with
        waiters := s.sync.waiters.filter fun w => !(w.ring == r),
        frameWaits := s.sync.frameWaits.filter fun w => !(w.ring == r) }).withTransit (cancelled t))) ∧
      (¬has → exec (.syncCancelRequest r) s = .next (s.withTransit t))) ∧
    (s.transit.presentCancel[r] = true →
      let t := { s.transit with presentCancel := update s.transit.presentCancel r false }
      let has := ∃ e ∈ s.presentation.queue, e.ring = r
      (has → exec (.presentCancelRequest r) s = .next ((s.withPresentation { s.presentation with
        queue := s.presentation.queue.filter fun e => !(e.ring == r) }).withTransit (cancelled t))) ∧
      (¬has → exec (.presentCancelRequest r) s = .next (s.withTransit t)))

/-! ## The Intake Unit's handling of entries -/

/-- ENTRY_FETCH_END of an entry that passes validation (R142 to R147): head moves past it, it becomes the entry
in service at the next group position, and it is handed to its owner; a NOP is completed in the same handling,
with a report of status OK where it carries REPORT, and its group ends where it does not carry CONT. A fetch may
then be granted. -/
def Obligations.FetchedEntryGoesToItsOwner : Prop :=
  ∀ (s : State) (f : EntryFetch) (bytes : List Byte) (kind : Kind),
    s.part = .running → s.intake.fetch = some f → (WorkEntry.mk bytes).kind = some kind →
    let r := f.ring
    let k := s.ring r
    let e := WorkEntry.mk bytes
    let base := s.withIntake { s.intake with fetch := none }
    k.walk = none → k.state ≠ .stopping → k.skip = false → k.position < 16 →
    (kind ≠ .nop → exec (.entryFetchEnd (.ok bytes)) s =
      .next ((base.modRing r fun k => { k with
        head := (k.head + 1) % k.size, position := k.position + 1, phase := .serving,
        service := some ⟨k.head, kind, e.tag, e.cont, e.report, k.position + 1⟩ }).withTransit
          { s.transit with handover := update s.transit.handover r (some e) }).grantFetch) ∧
    (kind = .nop → e.report = false → e.cont = true → exec (.entryFetchEnd (.ok bytes)) s =
      .next ((base.modRing r fun k => { k with
        head := (k.head + 1) % k.size, position := k.position + 1, phase := .idle, service := none }).grantFetch)) ∧
    (kind = .nop → e.report = false → e.cont = false → exec (.entryFetchEnd (.ok bytes)) s =
      .next (((base.modRing r fun k => { k with
        head := (k.head + 1) % k.size, done := (k.head + 1) % k.size, position := 0, phase := .idle,
        service := none }).statusDue r).grantFetch)) ∧
    (kind = .nop → e.report = true → exec (.entryFetchEnd (.ok bytes)) s =
      .next (((base.modRing r fun k => { k with
        head := (k.head + 1) % k.size, position := k.position + 1, service := none }).offerRingReport r
          { index := k.head, kind := kind.code, status := .ok, tag := e.tag, position := k.position + 1,
            skipped := 0, openGroup := false, detailA := 0, detailB := 0,
            after := if e.cont then .continueGroup else .endGroup }).grantFetch))

/-- ENTRY_FETCH_END otherwise (R138, R142, R144, R153, R154, R158): an entry under the skip flag is consumed; a
fetch that ends in STOPPING has no effect but to stop the ring; an unknown kind and a seventeenth member of a
group are ring faults with a failure report; a bus error is one that leaves head; a part that is not RUNNING
drops the fetch. That a fetch in flight at a halt ends without effect is the model's inference for a HALTED part
(log entry 19), and that a BAD_KIND report carries the entry's own kind byte is its choice (log entry 34). -/
def Obligations.FetchedEntryIsSkippedOrFails : Prop :=
  ∀ (s : State) (f : EntryFetch), s.intake.fetch = some f →
    let r := f.ring
    let k := s.ring r
    let base := s.withIntake { s.intake with fetch := none }
    (∀ read, s.part ≠ .running → exec (.entryFetchEnd read) s = .next base) ∧
    (∀ read, s.part = .running → k.walk = none → k.state = .stopping → exec (.entryFetchEnd read) s =
      .next ((base.modRing r fun k => { k with phase := .idle, state := .stopped }).statusDue r).grantFetch) ∧
    (∀ bytes, s.part = .running → k.walk = none → k.state ≠ .stopping → k.skip = true →
      exec (.entryFetchEnd (.ok bytes)) s = .next ((base.modRing r fun k => { k with
        head := (k.head + 1) % k.size, done := (k.head + 1) % k.size, skip := (WorkEntry.mk bytes).cont,
        phase := .idle }).statusDue r).grantFetch) ∧
    (∀ bytes status, s.part = .running → k.walk = none → k.state ≠ .stopping → k.skip = false →
      let e := WorkEntry.mk bytes
      let walk : Walk :=
        { index := k.head, kind := e.byte 0, tag := e.tag, position := k.position + 1,
          status := status, detailA := 0, detailB := 0, skipped := 0 }
      let failed (isOpen : Bool) := ((base.modRing r fun k => { k with
        head := (k.head + 1) % k.size, faultMark := true, service := none, walk := none,
        skip := isOpen }).offerRingReport r (walk.report isOpen)).grantFetch
      (e.kind = none ∧ status = .badKind) ∨ (e.kind ≠ none ∧ 16 ≤ k.position ∧ status = .badChain) →
      (e.cont = false → exec (.entryFetchEnd (.ok bytes)) s = .next (failed false)) ∧
      (e.cont = true → (k.head + 1) % k.size = k.post →
        exec (.entryFetchEnd (.ok bytes)) s = .next (failed true)) ∧
      (e.cont = true → (k.head + 1) % k.size ≠ k.post → exec (.entryFetchEnd (.ok bytes)) s =
        .next (base.modRing r fun k => { k with
          head := (k.head + 1) % k.size, faultMark := true, service := none, walk := some walk,
          phase := .fetching }).grantFetch)) ∧
    (s.part = .running → k.walk = none → k.state ≠ .stopping → exec (.entryFetchEnd .busError) s =
      .next ((base.modRing r fun k => { k with
        faultMark := true, walk := none, skip := true }).offerRingReport r
          { index := k.head, kind := 0, status := .busError, tag := 0,
            position := if k.skip then 0 else k.position + 1, skipped := 0, openGroup := true,
            detailA := 0, detailB := 0, after := .endGroup }).grantFetch)

/-- ENTRY_FETCH_END during an abandon walk (R152): each entry walked over is counted; the walk goes on, or ends
closed at the entry without CONT, or ends open at post, with the failure report of the failing entry; a bus
error ends it open at the same head with the fault mark set. -/
def Obligations.AbandonWalkCountsTheSkippedEntries : Prop :=
  ∀ (s : State) (f : EntryFetch) (w : Walk), s.part = .running → s.intake.fetch = some f →
    (s.ring f.ring).walk = some w →
    let r := f.ring
    let k := s.ring r
    let base := s.withIntake { s.intake with fetch := none }
    let report (skipped : Nat) (isOpen : Bool) : RingReport :=
      { index := w.index, kind := w.kind, status := w.status, tag := w.tag, position := w.position,
        skipped := skipped, openGroup := isOpen, detailA := w.detailA, detailB := w.detailB,
        after := .endGroup }
    (∀ bytes, (WorkEntry.mk bytes).cont = false → exec (.entryFetchEnd (.ok bytes)) s =
      .next ((base.modRing r fun k => { k with
        head := (k.head + 1) % k.size, walk := none, skip := false }).offerRingReport r
          (report (w.skipped + 1) false)).grantFetch) ∧
    (∀ bytes, (WorkEntry.mk bytes).cont = true → (k.head + 1) % k.size = k.post →
      exec (.entryFetchEnd (.ok bytes)) s = .next ((base.modRing r fun k => { k with
        head := (k.head + 1) % k.size, walk := none, skip := true }).offerRingReport r
          (report (w.skipped + 1) true)).grantFetch) ∧
    (∀ bytes, (WorkEntry.mk bytes).cont = true → (k.head + 1) % k.size ≠ k.post →
      exec (.entryFetchEnd (.ok bytes)) s = .next (base.modRing r fun k => { k with
        head := (k.head + 1) % k.size, walk := some { w with skipped := w.skipped + 1 } }).grantFetch) ∧
    exec (.entryFetchEnd .busError) s = .next ((base.modRing r fun k => { k with
      faultMark := true, walk := none, skip := true }).offerRingReport r (report w.skipped true)).grantFetch

/-- OWNER_ANSWER (R5, R148 to R151): OK and PARTIAL complete the entry, which is reported where it carries
REPORT, goes on with its group where it carries CONT, and ends the group otherwise, a STOPPING ring becoming
STOPPED there; every other status is a failure, whose report is due at once where the group is known to have
ended or nothing more of it is posted, and after an abandon walk otherwise. An answer of the Glyph Table waits
until those it gave before have been taken. That cancel requests still on their way for the entry go with its
answer is the model's inference (log entry 6), and so is that during RESETTING the Intake Unit takes the reset's
announcement first (log entry 18). It is the model's choice that the answers of other blocks keep no order among
them (log entry 40), and that a report due after the Report Unit has taken a halt joins the ring class (log
entry 39). -/
def Obligations.OwnerAnswerEndsTheEntry : Prop :=
  (∀ (s : State) (r : RingId) (a : Answer) (v : EntryInService), s.part ≠ .resetting →
    s.transit.answers[r] = some a → (s.ring r).service = some v →
    r ∉ s.transit.glyphAnswers ∨ s.transit.glyphAnswers.head? = some r →
    let k := s.ring r
    let state := if k.state = .stopping then RingState.stopped else k.state
    let base := (s.withTransit { s.transit with
      answers := update s.transit.answers r none,
      glyphAnswers := s.transit.glyphAnswers.filter (· != r),
      syncCancel := update s.transit.syncCancel r false,
      presentCancel := update s.transit.presentCancel r false }).modRing r fun k => { k with service := none }
    let completes := a.status = .ok ∨ a.status = .partially
    let report (isOpen : Bool) (after : AfterReport) : RingReport :=
      { index := v.index, kind := v.kind.code, status := a.status, tag := v.tag, position := v.position,
        skipped := 0, openGroup := isOpen, detailA := a.detailA, detailB := a.detailB, after := after }
    let failed (isOpen : Bool) := ((base.modRing r fun k => { k with
      walk := none, skip := isOpen }).offerRingReport r (report isOpen .endGroup)).grantFetch
    (completes → v.report = true → exec (.ownerAnswer r) s = .next (base.offerRingReport r
      (report false (if v.cont then .continueGroup else .endGroup))).grantFetch) ∧
    (completes → v.report = false → v.cont = true →
      let t := base.modRing r fun k => { k with phase := .idle, state := state }
      exec (.ownerAnswer r) s = .next (if k.state = .stopping then t.statusDue r else t).grantFetch) ∧
    (completes → v.report = false → v.cont = false → exec (.ownerAnswer r) s =
      .next ((base.modRing r fun k => { k with
        done := k.head, position := 0, phase := .idle, state := state }).statusDue r).grantFetch) ∧
    (¬completes → v.cont = false → exec (.ownerAnswer r) s = .next (failed false)) ∧
    (¬completes → v.cont = true → k.head = k.post → exec (.ownerAnswer r) s = .next (failed true)) ∧
    (¬completes → v.cont = true → k.head ≠ k.post → exec (.ownerAnswer r) s =
      .next (base.modRing r fun k => { k with
        phase := .fetching,
        walk := some ⟨v.index, v.kind.code, v.tag, v.position, a.status, a.detailA, a.detailB, 0⟩ }).grantFetch)) ∧
  (∀ (s : State) (q r : RingId) (rest : List RingId), s.part ≠ .resetting →
    s.transit.glyphAnswers = q :: rest → r ∈ rest → q ≠ r → exec (.ownerAnswer r) s = .next s) ∧
  ∀ (s : State) (r : RingId), s.part = .resetting → s.transit.halts.intake = true →
    exec (.ownerAnswer r) s = exec .intakeHaltAnnouncement s

/-- REPORT_ACCEPTED (R154, R156, R138, R150): the report is cleared; a ring with the fault mark becomes FAULTED,
and a STOPPING one STOPPED; the group ends after the report of its last entry or of a failure, and otherwise the
phase becomes IDLE; a change of state or of done makes a status write due. NOP in service completes (R147; that
the row acts alone is the model's choice, log entry 4). During RESETTING the Intake Unit takes the reset's
announcement first, so that neither changes a ring's state (R201; the model's inference, log entry 18). An
acceptance taken between a fatal fault and the Intake Unit's announcement acts as in RUNNING by its choice (log
entry 42). -/
def Obligations.ReportAcceptedContinuesTheRing : Prop :=
  (∀ (s : State) (r : RingId), s.part ≠ .resetting →
    (∀ rep, s.transit.accepted[r] = true → (s.ring r).reportDue = some rep →
      let k := s.ring r
      let base := s.withTransit { s.transit with accepted := update s.transit.accepted r false }
      let state := if k.faultMark then RingState.faulted
        else if k.state = .stopping then .stopped else k.state
      (rep.after = .endGroup → exec (.reportAccepted r) s = .next ((base.modRing r fun k => { k with
        reportDue := none, faultMark := false, state := state, phase := .idle, done := k.head,
        position := 0 }).statusDue r).grantFetch) ∧
      (rep.after ≠ .endGroup →
        let t := base.modRing r fun k => { k with
          reportDue := none, faultMark := false, state := state, phase := .idle }
        exec (.reportAccepted r) s =
          .next (if state = k.state then t else t.statusDue r).grantFetch)) ∧
    (∀ v, (s.ring r).service = some v → v.kind = .nop → (s.ring r).phase = .serving →
      exec (.nop r) s = .next (s.completeEntry r v .done).grantFetch)) ∧
  ∀ (s : State) (r : RingId), s.part = .resetting → s.transit.halts.intake = true →
    exec (.reportAccepted r) s = exec .intakeHaltAnnouncement s ∧
    exec (.nop r) s = exec .intakeHaltAnnouncement s ∧
    ∃ t, exec .intakeHaltAnnouncement s = .next t ∧
      ∀ q : RingId, (t.ring q).state = (s.ring q).state ∧ (t.ring q).done = (s.ring q).done

/-- STATUS_WORD_WRITE_END and the writes that fall due (R157, Table 56): a write starts with done and state as
they stand where none is in flight, and any number that fall due meanwhile are carried by one write that starts
when it ends; a bus error is a fatal fault on its way to the Host Port while the part is RUNNING. That a write
may start between a bus error and the Host Port's taking of that fault is the model's choice (log entry 43). -/
def Obligations.StatusWritesCarryTheLatestState : Prop :=
  ∀ (s : State) (r : RingId),
    let k := s.ring r
    let word := BitVec.ofNat 32 (k.done % 1024 + k.state.code * 65536)
    let started := StatusWrite.inFlight ⟨k.statusAddr.toNat, word⟩
    (s.part = .running → k.state ≠ .unused → k.statusWrite = .none →
      s.statusDue r = s.modRing r fun k => { k with statusWrite := started }) ∧
    (∀ w, s.part = .running → k.state ≠ .unused → k.statusWrite = .inFlight w ∨ k.statusWrite = .inFlightAndDue w →
      s.statusDue r = s.modRing r fun k => { k with statusWrite := .inFlightAndDue w }) ∧
    (∀ w, k.statusWrite = .inFlight w → exec (.statusWordWriteEnd r false) s =
      .next (s.modRing r fun k => { k with statusWrite := .none })) ∧
    (∀ w, k.statusWrite = .inFlightAndDue w → s.part = .running → exec (.statusWordWriteEnd r false) s =
      .next (s.modRing r fun k => { k with statusWrite := started })) ∧
    (∀ w, k.statusWrite = .inFlight w ∨ k.statusWrite = .inFlightAndDue w → s.part = .running →
      exec (.statusWordWriteEnd r true) s =
        .next ((s.modRing r fun k => { k with statusWrite := .none }).withTransit
          { s.transit with faults := s.transit.faults ++ [.statusBus r] })) ∧
    (∀ w, k.statusWrite = .inFlight w ∨ k.statusWrite = .inFlightAndDue w → s.part ≠ .running →
      ∀ error, exec (.statusWordWriteEnd r error) s =
        .next (s.modRing r fun k => { k with statusWrite := .none }))

/-- The fetch arbiter (R141): with no fetch in flight and some candidate it grants one fetch, to an URGENT
candidate where there is one, and within the class to the first in round-robin order from the ring after the
last served; otherwise it grants none. -/
def Obligations.FetchArbiterServesUrgentRingsFirst : Prop :=
  ∀ s : State,
    let candidate (r : RingId) := (s.ring r).head ≠ (s.ring r).post ∧
      ((s.ring r).walk ≠ none ∨ ((s.ring r).state = .active ∧ (s.ring r).phase = .idle))
    let turn (r : RingId) : Nat := (r - s.intake.lastServed - 1).1
    (s.part ≠ .running ∨ s.intake.fetch ≠ none ∨ (∀ r, ¬candidate r) → s.grantFetch = s) ∧
    (s.part = .running → s.intake.fetch = none → (∃ r, candidate r) →
      ∃ r, candidate r ∧
        (∀ q, candidate q → (s.ring q).cls = .urgent → (s.ring r).cls = .urgent) ∧
        (∀ q, candidate q → (s.ring q).cls = (s.ring r).cls → turn r ≤ turn q) ∧
        s.grantFetch = (s.modRing r fun k => { k with phase := .fetching }).withIntake { s.intake with
          rings := update s.intake.rings r { s.ring r with phase := .fetching },
          fetch := some ⟨r, (s.ring r).base.toNat + (s.ring r).head * 32⟩, lastServed := r })

/-! ## The Report Unit -/

/-- The buffer arbiter and the report writer (R162, R163, R165 to R167), every ring of the ring class having its
report due: once the reports of a RUNNING part have been served, the buffer is full or no report waits, and a
write is in flight unless the buffer is empty or the report ring is full. The reports taken are those first in
turn, ring class and lane class alternating from the turn on; each carries the lap bit of the index it will be
written to and the frame number; they follow those taken before, and each ring whose report is taken is told. -/
def Obligations.ServedReportsLeaveNothingWaiting : Prop :=
  ∀ s : State, s.part = .running → s.report.buffer.length ≤ 8 →
    (∀ r ∈ s.report.ringClass, (s.ring r).reportDue ≠ none) →
    let t := s.serveReports
    let ahead := s.report.buffer.length + (if s.report.write = none then 0 else 1)
    let completed (e : ReportEntry) (i : Nat) : ReportEntry := { e with
      lap := if s.report.writeIndex + ahead + i < s.report.size then s.report.lap else !s.report.lap,
      frame := s.presentation.frameCounter.extractLsb' 0 16 }
    (t.report.buffer.length = 8 ∨ (t.report.ringClass = [] ∧ ∀ l, (t.laneAt l).record = none)) ∧
    (t.report.write ≠ none ∨ t.report.buffer = [] ∨
      t.report.size ≤ forward t.report.size t.report.releaseIndex t.report.writeIndex + 1) ∧
    t.report.buffer.length ≤ 8 ∧
    (∃ n, t.waitingReports = s.waitingReports.drop n ∧
      t.report.write.toList ++ t.report.buffer = s.report.write.toList ++ s.report.buffer ++
        (s.waitingReports.take n).mapIdx fun i e => completed e i) ∧
    ∃ told, s.report.ringClass = told ++ t.report.ringClass ∧
      ∀ r : RingId, t.transit.accepted[r] = (s.transit.accepted[r] || told.contains r)

/-- REPORT_WRITE_END (R168, R169): the write index moves one forward, the lap flipping where it wraps,
EVT.REPORT is set and the reports are served; a bus error leaves write index, lap and EVT.REPORT, and while the
part is RUNNING sends a fatal fault to the Host Port. -/
def Obligations.ReportWriteEndMovesTheWriteIndex : Prop :=
  ∀ (s : State) (e : ReportEntry), s.report.write = some e →
    let u := s.report
    (exec (.reportWriteEnd false) s = .next (((s.withReport { u with
      writeIndex := (u.writeIndex + 1) % u.size, write := none,
      lap := if (u.writeIndex + 1) % u.size = 0 then !u.lap else u.lap }).withHost { s.host with
        evt := s.host.evt ||| Event.report.bit }).serveReports)) ∧
    (s.part = .running → exec (.reportWriteEnd true) s =
      .next ((s.withReport { u with write := none }).withTransit
        { s.transit with faults := s.transit.faults ++ [.reportBus] })) ∧
    (s.part ≠ .running → exec (.reportWriteEnd true) s = .next (s.withReport { u with write := none }))

/-! ## The Glyph Table -/

/-- FACE_LOAD and FACE_DROP (R2 to R5, R36), taken by a Glyph Table without other entries: the checks with their
statuses; a face that is changed is written or emptied, its RESIDENT and USER slots are freed where it was
LOADED, and the SET lanes of that face adjust their offsets to its new advance. That an entry handed over before
a fatal fault is so taken until the halt's announcement is the model's choice (log entry 33). -/
def Obligations.FaceEntriesChangeAFace : Prop :=
  ∀ (s : State) (r : RingId) (e : WorkEntry), s.part ≠ .resetting → s.waitsAt r e → s.glyphFree →
    let g := s.glyph
    let a := e.faceLoadArgs
    let valid := a.first.toNat ≤ a.last.toNat ∧ (1 ≤ a.width ∧ a.width ≤ 16) ∧ (1 ≤ a.height ∧ a.height ≤ 32) ∧
      (1 ≤ a.advance ∧ a.advance ≤ 32) ∧ a.stride % 2 = 0 ∧ 2 * a.height ≤ a.stride ∧ a.base.toNat % 2 = 0 ∧
      a.base.toNat + (a.last.toNat - a.first.toNat) * a.stride + 2 * a.height - 1 ≤ 0xFFFFFFFF
    let owned (f : FaceId) (k : Slot) := k.key.map Key.face = some f ∧ (k.state = .resident ∨ k.state = .user)
    let changed (command : Instr) (f : FaceId) (record : Face) (frees : Prop) :=
      ∃ t, exec command s = .next t ∧ t.glyph.faces = update g.faces f record ∧
        (∀ n : SlotId, (frees ∧ owned f g.slots[n] →
            t.glyph.slots[n] = { g.slots[n] with state := .free, key := none }) ∧
          (¬(frees ∧ owned f g.slots[n]) → t.glyph.slots[n] = g.slots[n])) ∧
        (∀ n, n ∈ t.glyph.reclaim ↔ n ∈ g.reclaim ∧ ¬(frees ∧ owned f g.slots[n])) ∧
        (∀ l : LaneId, t.laneAt l =
          if (s.laneAt l).state = .set ∧ (s.laneAt l).settings.face = f then (s.laneAt l).adjust record.advance
          else s.laneAt l) ∧
        t = ((s.withGlyph { g with
          faces := t.glyph.faces, slots := t.glyph.slots, reclaim := t.glyph.reclaim }).withLane
            { s.lane with lanes := t.lane.lanes }).answeredInOrder r .done
    (e.kind = some .faceLoad →
      (8 ≤ a.face ∨ ¬valid → exec (.faceLoad r) s = .next (s.answeredInOrder r (.failed .badOperand))) ∧
      ∀ f : FaceId, a.face = f.1 → valid →
        let record : Face := ⟨.loaded, a.base, a.first, a.last, a.substitute, a.width, a.height, a.advance, a.stride⟩
        (g.faces[f].state = .loaded → s.faceUsed f →
          exec (.faceLoad r) s = .next (s.answeredInOrder r (.failed .inUse))) ∧
        (g.faces[f].state = .empty → changed (.faceLoad r) f record False) ∧
        (g.faces[f].state = .loaded → ¬s.faceUsed f → changed (.faceLoad r) f record True)) ∧
    (e.kind = some .faceDrop →
      (8 ≤ e.u8 0x04 → exec (.faceDrop r) s = .next (s.answeredInOrder r (.failed .badOperand))) ∧
      ∀ f : FaceId, e.u8 0x04 = f.1 →
        (g.faces[f].state = .empty → exec (.faceDrop r) s = .next (s.answeredInOrder r (.failed .notSet))) ∧
        (g.faces[f].state = .loaded → s.faceUsed f →
          exec (.faceDrop r) s = .next (s.answeredInOrder r (.failed .inUse))) ∧
        (g.faces[f].state = .loaded → ¬s.faceUsed f → changed (.faceDrop r) f Face.none True))

/-- GLYPH_RELEASE, GLYPH_DEFINE and GLYPH_PRELOAD as a Glyph Table without other entries takes them (R5, R22 to
R24, R27): a release frees an unpinned USER slot of its key; a define begins its bitmap read; a preload begins
the fetch of a code that is not held, in the lowest FREE slot, goes on with the next code after one that is
held, completes at once where that was the last, and ends PARTIAL with all its codes not loaded where the first
finds no slot; each failing check answers its status and changes nothing. That an EMPTY face fails before codes
out of order or an odd address is the model's choice (log entries 31 and 32). That an entry handed over before a
fatal fault is so taken until the halt's announcement is the model's choice (log entry 33). -/
def Obligations.GlyphEntriesReleaseDefineAndPreload : Prop :=
  ∀ (s : State) (r : RingId) (e : WorkEntry), s.part ≠ .resetting → s.waitsAt r e → s.glyphFree →
    let g := s.glyph
    let fails (command : Instr) (status : Status) := exec command s = .next (s.answeredInOrder r (.failed status))
    let first := (e.half 0x08).toNat
    let last := (e.half 0x0A).toNat
    let serving (g' : GlyphTable) :=
      (s.clearHandover r).withGlyph { g' with service := some ⟨r, e, first⟩ }
    (8 ≤ e.u8 0x04 →
      (e.kind = some .glyphRelease → fails (.glyphRelease r) .badOperand) ∧
      (e.kind = some .glyphDefine → fails (.glyphDefine r) .badOperand) ∧
      (e.kind = some .glyphPreload → fails (.glyphPreload r) .badOperand)) ∧
    ∀ f : FaceId, e.u8 0x04 = f.1 →
      let held := g.slotOf ⟨f, e.half 0x06⟩
      (e.kind = some .glyphRelease →
        (held = none → fails (.glyphRelease r) .notSet) ∧
        (∀ n, held = some n → g.slots[n].state ≠ .user → fails (.glyphRelease r) .notSet) ∧
        (∀ n, held = some n → g.slots[n].state = .user → 0 < g.slots[n].pins → fails (.glyphRelease r) .inUse) ∧
        (∀ n, held = some n → g.slots[n].state = .user → g.slots[n].pins = 0 →
          exec (.glyphRelease r) s = .next ((s.withGlyph { g with
            slots := update g.slots n { g.slots[n] with state := .free, key := none } }).answeredInOrder r .done))) ∧
      (e.kind = some .glyphDefine →
        (g.faces[f].state = .empty → fails (.glyphDefine r) .notSet) ∧
        (g.faces[f].state = .loaded → (e.word 0x08).toNat % 2 = 1 → fails (.glyphDefine r) .badOperand) ∧
        (g.faces[f].state = .loaded → (e.word 0x08).toNat % 2 = 0 → exec (.glyphDefine r) s =
          .next (serving { g with
            defineRead := some ⟨(e.word 0x08).toNat, 2 * g.faces[f].height⟩ }))) ∧
      (e.kind = some .glyphPreload →
        let face := g.faces[f]
        let inFace := face.first.toNat ≤ first ∧ first ≤ last ∧ last ≤ face.last.toNat
        (face.state = .empty → fails (.glyphPreload r) .notSet) ∧
        (face.state = .loaded → ¬inFace → fails (.glyphPreload r) .badOperand) ∧
        (∀ n, face.state = .loaded → inFace → first = last → g.slotOf ⟨f, e.half 0x08⟩ = some n →
          g.slots[n].state ≠ .filling → exec (.glyphPreload r) s = .next ((s.withGlyph { g with
            reclaim := if g.slots[n].state = .resident ∧ n ∈ g.reclaim then
                g.reclaim.filter (· != n) ++ [n] else g.reclaim }).answeredInOrder r .done)) ∧
        (∀ n, face.state = .loaded → inFace → g.slotOf ⟨f, e.half 0x08⟩ = none → g.fetch = none →
          g.queue = [] → s.lowestFree n → exec (.glyphPreload r) s = .next (serving { g with
            slots := update g.slots n { g.slots[n] with
              state := .filling, key := some ⟨f, e.half 0x08⟩, waiters := [], defineWait := false },
            fetch := some ⟨n, some .preload,
              face.base.toNat + (first - face.first.toNat) * face.stride, 2 * face.height⟩ })) ∧
        (∀ n g', face.state = .loaded → inFace → first < last → g.slotOf ⟨f, e.half 0x08⟩ = some n →
          g.slots[n].state ≠ .filling →
          ({ g with
            service := some ⟨r, e, first + 1⟩,
            reclaim := if g.slots[n].state = .resident ∧ n ∈ g.reclaim then
              g.reclaim.filter (· != n) ++ [n] else g.reclaim } : GlyphTable).lookup .preload f
                (BitVec.ofNat 16 (first + 1)) = (g', []) →
          exec (.glyphPreload r) s = .next ((s.clearHandover r).withGlyph g')) ∧
        (face.state = .loaded → inFace → g.slotOf ⟨f, e.half 0x08⟩ = none → g.fetch = none → g.queue = [] →
          (∀ m : SlotId, g.slots[m].state ≠ .free) → g.reclaim = [] → last - first < 65535 →
          exec (.glyphPreload r) s =
            .next (s.answeredInOrder r ⟨.partially, BitVec.ofNat 16 (last - first + 1), 0⟩)))

/-- DEFINE_READ_END (R5, R24 to R26, R29), no other entry waiting: a bus error ends the define; otherwise the
rows read go into the slot that holds the key, which becomes USER, or into the lowest FREE slot for a key that
is not held, or into the evicted head of the reclaim list where none is FREE; a FILLING slot is waited for, a
request joins the fetch queue behind a fetch in progress, and 128 USER slots or no slot to take answer NO_SLOT,
with detail B 1 or 0. A read whose define was abandoned ends without effect. A read shorter than what it asked
for would read on with 00H (the model's choice, log entry 11). Between a fatal fault and the Glyph Table's
announcement this holds as in RUNNING by the model's choice (log entry 41). -/
def Obligations.DefineReadEndCommitsTheGlyph : Prop :=
  (∀ (s : State) (v : GlyphService) (span : ReadSpan) (f : FaceId),
    s.part ≠ .resetting → s.glyph.service = some v → s.glyph.defineRead = some span → s.glyph.entries = [] →
    (s.ring v.ring).awaitsAnswer = true → v.entry.u8 0x04 = f.1 →
    let g := s.glyph
    let key : Key := ⟨f, v.entry.half 0x06⟩
    let ended (g' : GlyphTable) (a : Answer) :=
      (s.withGlyph { g' with service := none, staging := none, defineRead := none }).withTransit { s.transit with
        answers := update s.transit.answers v.ring (some a),
        glyphAnswers := s.transit.glyphAnswers ++ [v.ring] }
    exec (.defineReadEnd .busError) s = .next (ended g (.failed .busError)) ∧
    ∀ bytes : List Byte,
      let rows := (List.range (span.len / 2)).map fun i => byteAt bytes (2 * i + 1) ++ byteAt bytes (2 * i)
      let staged := { g with staging := some rows, defineRead := none }
      let command := exec (.defineReadEnd (.ok bytes)) s
      (∀ n, g.slotOf key = some n → g.slots[n].state = .user → command =
        .next (ended { g with
          slots := update g.slots n { g.slots[n] with bitmap := GlyphTable.bitmapOf rows } } .done)) ∧
      (∀ n, g.slotOf key = some n → g.slots[n].state = .resident → g.userCount < 128 → command =
        .next (ended { g with
          slots := update g.slots n { g.slots[n] with
            bitmap := GlyphTable.bitmapOf rows, state := .user },
          reclaim := g.reclaim.filter (· != n) } .done)) ∧
      (∀ n, g.slotOf key = some n → g.slots[n].state = .resident → 128 ≤ g.userCount →
        command = .next (ended g ⟨.noSlot, 0, 1⟩)) ∧
      (∀ n, g.slotOf key = some n → g.slots[n].state = .filling → command =
        .next (s.withGlyph { staged with
          slots := update g.slots n { g.slots[n] with defineWait := true } })) ∧
      (∀ n, g.slotOf key = none → g.fetch = none → g.queue = [] → g.userCount < 128 → s.lowestFree n →
        command = .next (ended { g with
          slots := update g.slots n { g.slots[n] with
            state := .user, key := some key, pins := 0, bitmap := GlyphTable.bitmapOf rows, waiters := [],
            defineWait := false } } .done)) ∧
      (∀ n rest, g.slotOf key = none → g.fetch = none → g.queue = [] → g.userCount < 128 →
        g.reclaim = n :: rest → (∀ m : SlotId, g.slots[m].state ≠ .free) →
        command = .next (ended { g with
          reclaim := rest,
          slots := update g.slots n { g.slots[n] with
            state := .user, key := some key, pins := 0, bitmap := GlyphTable.bitmapOf rows, waiters := [],
            defineWait := false } } .done)) ∧
      (g.slotOf key = none → g.fetch = none → g.queue = [] → g.userCount < 128 → g.reclaim = [] →
        (∀ n : SlotId, g.slots[n].state ≠ .free) → command = .next (ended g ⟨.noSlot, 0, 0⟩)) ∧
      (g.slotOf key = none → g.fetch = none → g.queue = [] → 128 ≤ g.userCount →
        command = .next (ended g ⟨.noSlot, 0, 1⟩)) ∧
      (g.slotOf key = none → g.fetch ≠ none → command =
        .next (s.withGlyph { staged with queue := g.queue ++ [⟨.define, key⟩] }))) ∧
  ∀ (s : State) (read : ReadEnd), s.part ≠ .resetting → s.glyph.defineRead = none →
    exec (.defineReadEnd read) s = .next (s.withGlyph { s.glyph with lostReads := s.glyph.lostReads.tail })

/-- GLYPH_FILL_END (R19 to R26, R41, R49, R50, R114, R123), no request and no other entry waiting. Without error
the slot becomes RESIDENT with the rows read, pinned once for each pinning requester, and joins the reclaim tail
where nothing pins it; with a bus error it becomes FREE and unmapped. The requester of the fetch and then the
waiters, in joining order, take the answer: a preload ends, goes on with its next code, ends PARTIAL with the
codes not loaded, or fails; a lane edit stages its cell, a REFRESH with its last cell found commits, an edit
fails and unpins what it has staged; a TEXT begins its stamp, or fails. A define that waits commits into the
slot, or after a bus error into a slot it allocates. A read shorter than what it asked for would read on with
00H (the model's choice, log entry 11). Where a lane edit and a preload are answered by one fill, they make
their next lookups in the order in which they were answered; the manual fixes the order of the answers alone,
and that of these acts is the model's choice (log entry 13). -/
def Obligations.GlyphFillEndMakesTheSlotResident : Prop :=
  ∀ (s : State) (f : GlyphFetch), s.part ≠ .resetting → s.glyph.fetch = some f → s.glyph.queue = [] →
    s.glyph.slots[f.slot].pins = 0 → f.slot ∉ s.glyph.reclaim →
    s.glyph.entries = [] → s.lane.entries = [] → s.raster.claims = [] →
    let g := s.glyph
    let slot := g.slots[f.slot]
    let audience := f.who.toList ++ slot.waiters
    let rows (bytes : List Byte) :=
      (List.range (f.read.len / 2)).map fun i => byteAt bytes (2 * i + 1) ++ byteAt bytes (2 * i)
    let filled (bytes : List Byte) (pins : Nat) : GlyphTable := { g with
      fetch := none, reclaim := if pins = 0 then g.reclaim ++ [f.slot] else g.reclaim,
      slots := update g.slots f.slot { slot with
        state := .resident, bitmap := GlyphTable.bitmapOf (rows bytes), pins := pins, waiters := [],
        defineWait := false } }
    let freed : GlyphTable := { g with
      fetch := none, slots := update g.slots f.slot { slot with
        state := .free, key := none, waiters := [], defineWait := false } }
    let ended (t : State) (g' : GlyphTable) (r : RingId) (a : Answer) :=
      (t.withGlyph { g' with service := none, staging := none }).withTransit { s.transit with
        answers := update s.transit.answers r (some a), glyphAnswers := s.transit.glyphAnswers ++ [r] }
    let answered (t : State) (r : RingId) (a : Answer) :=
      t.withTransit { s.transit with answers := update s.transit.answers r (some a) }
    let good (bytes : List Byte) := exec (.glyphFillEnd (.ok bytes)) s
    let bad := exec (.glyphFillEnd .busError) s
    (slot.defineWait = false →
      (∀ bytes, g.fillEnds (.ok bytes) =
        (filled bytes (audience.countP fun w => w == .text || w == .laneEdit),
          audience.map fun w => .answered w (.slot f.slot))) ∧
      g.fillEnds .busError = (freed, audience.map fun w => .answered w .busError)) ∧
    (slot.defineWait = false → audience = [] →
      (∀ bytes, good bytes = .next (s.withGlyph (filled bytes 0))) ∧ bad = .next (s.withGlyph freed)) ∧
    (∀ (v : GlyphService) (face : FaceId), slot.defineWait = false → audience = [.preload] →
      g.service = some v → v.entry.u8 0x04 = face.1 → (s.ring v.ring).awaitsAnswer = true →
      let last := (v.entry.half 0x0A).toNat
      let looked (bytes : List Byte) := ({ filled bytes 0 with
        service := some { v with code := v.code + 1 } } : GlyphTable).lookup .preload face
          (BitVec.ofNat 16 (v.code + 1))
      bad = .next (ended s freed v.ring (.failed .busError)) ∧
      ∀ bytes,
        (last ≤ v.code → good bytes = .next (ended s (filled bytes 0) v.ring .done)) ∧
        (∀ g', v.code < last → looked bytes = (g', []) → good bytes = .next (s.withGlyph g')) ∧
        (∀ g' n, v.code + 1 = last → looked bytes = (g', [.answered .preload (.slot n)]) → good bytes =
          .next (ended s g' v.ring .done))) ∧
    (∀ v : GlyphService, slot.defineWait = true → audience = [] → g.service = some v →
      (s.ring v.ring).awaitsAnswer = true →
      let bitmap := GlyphTable.bitmapOf (g.staging.getD [])
      (∀ bytes, (filled bytes 0).userCount < 128 → good bytes =
        .next (ended s { g with
          fetch := none, slots := update g.slots f.slot { slot with
            state := .user, bitmap := bitmap, waiters := [], defineWait := false } } v.ring .done)) ∧
      (∀ bytes, 128 ≤ (filled bytes 0).userCount → good bytes =
        .next (ended s (filled bytes 0) v.ring ⟨.noSlot, 0, 1⟩)) ∧
      ∀ key, slot.key = some key → freed.slotOf key = none →
        (∀ n : SlotId, freed.userCount < 128 → freed.slots[n].state = .free →
          (∀ m : SlotId, m < n → freed.slots[m].state ≠ .free) → bad =
          .next (ended s { freed with slots := update freed.slots n { freed.slots[n] with
            state := .user, key := some key, pins := 0, bitmap := bitmap, waiters := [],
            defineWait := false } } v.ring .done)) ∧
        (128 ≤ freed.userCount → bad = .next (ended s freed v.ring ⟨.noSlot, 0, 1⟩))) ∧
    (∀ (v : LaneService) (c : StagedCell), slot.defineWait = false → audience = [.laneEdit] →
      s.lane.service = some v → v.current = some c → (s.ring v.ring).awaitsAnswer = true →
      let found : StagedCell := { c with cell := { c.cell with slot := some f.slot } }
      bad = .next (answered ((s.withGlyph (GlyphTable.unpinAll (s.lane.staging.map fun x => x.cell.slot)
        freed)).withLane { s.lane with
          staging := [], service := none, lostReads := s.lane.lostReads ++ v.read.toList }) v.ring
            (.failed .busError)) ∧
      ∀ bytes,
        (v.todo = [] → 0 < v.undelivered → good bytes =
          .next ((s.withGlyph (filled bytes 1)).withLane { s.lane with
            staging := s.lane.staging ++ [found], service := some { v with current := none } })) ∧
        (∀ next rest g', v.todo = next :: rest →
          (filled bytes 1).lookup .laneEdit (s.laneAt v.lane).settings.face next.cell.code = (g', []) →
          good bytes = .next ((s.withGlyph g').withLane { s.lane with
            staging := s.lane.staging ++ [found],
            service := some { v with todo := rest, current := some next } })) ∧
        (v.edit = .refresh → v.todo = [] → v.undelivered = 0 → v.read = none →
          let staged := s.lane.staging ++ [found]
          (staged.map StagedCell.position).Nodup →
          let k := s.laneAt v.lane
          ∃ cells : List TextCell, cells.length = k.cells.length ∧
            (∀ (i : Nat) (old : TextCell), k.cells[i]? = some old →
              (∀ x n, x ∈ staged → x.position = i → x.cell.slot = some n →
                cells[i]? = some { old with slot := some n }) ∧
              ((∀ x n, x ∈ staged → x.position = i → x.cell.slot ≠ some n) → cells[i]? = some old)) ∧
            good bytes = .next (answered ((s.withGlyph (filled bytes 1)).withLane { s.lane with
              lanes := update s.lane.lanes v.lane { k with cells := cells }, staging := [], service := none })
                v.ring (if ∀ x ∈ cells, x.slot ≠ none then .done
                  else .partially 0 (cells.countP fun x => x.slot.isNone))))) ∧
    (∀ (c : Claim) (d : SurfaceId), slot.defineWait = false → audience = [.text] →
      s.raster.service = some c → s.raster.step = .lookingUp → s.raster.stamp = none →
      s.raster.finishing = false →
      c.entry.kind = some .text → c.entry.rasterArgs.dst = some d → (s.ring c.ring).awaitsAnswer = true →
      let a := c.entry.rasterArgs
      let dst := s.surfaceAt d
      let m := s.raster.metrics
      let left := a.dx + s.raster.codeIndex * m.advance
      let admits (x y : Nat) := (left ≤ x ∧ x ≤ left + m.advance - 1) ∧ (a.dy ≤ y ∧ y ≤ a.dy + m.height - 1) ∧
        ∃ clip, dst.clip = some clip ∧ (clip.x0 ≤ x ∧ x ≤ clip.x1) ∧ clip.y0 ≤ y ∧ y ≤ clip.y1
      bad = .next (answered (((s.withGlyph freed).withSurfaces
        (update s.surfaces d { dst with mark := false })).withRaster
          { RasterEngine.idle with lostReads := s.raster.lostReads }) c.ring (.failed .busError)) ∧
      ∀ bytes mix x y, a.mix = some mix → a.paperClear = some false → admits x y →
        (∀ x' y', admits x' y' → x ≤ x' ∧ y ≤ y') →
        let bits := (GlyphTable.bitmapOf (rows bytes)).toArray.getD ((y : Int) - a.dy).toNat 0
        let u := ((x : Int) - left).toNat
        let ink := u < min m.width m.advance ∧ bits.getMsbD u = true
        let value := (if ink then a.ink else a.paper) &&& depthMask dst.depth
        good bytes = .next ((s.withGlyph (filled bytes 1)).withRaster { s.raster with
          step := .drawing, stamp := some ⟨some f.slot⟩, drawing := some ⟨0, 0, bits,
            { kind := if mix = .replace ∧ 8 ≤ dst.depth then .destWrite value else .destRead value,
              space := dst.space, addr := dst.base.toNat + y * dst.pitch + x * dst.depth / 8 }⟩ })) ∧
    (∀ (v : LaneService) (c : StagedCell) (w : GlyphService) (face : FaceId), slot.defineWait = false →
      audience = [.laneEdit, .preload] ∨ audience = [.preload, .laneEdit] →
      s.lane.service = some v → v.current = some c → v.todo = [] → 0 < v.undelivered →
      g.service = some w → w.entry.u8 0x04 = face.1 → (s.ring w.ring).awaitsAnswer = true →
      let last := (w.entry.half 0x0A).toNat
      ∀ bytes g', w.code < last →
        ({ filled bytes 1 with service := some { w with code := w.code + 1 } } : GlyphTable).lookup .preload face
          (BitVec.ofNat 16 (w.code + 1)) = (g', [.answered .preload .noSlot]) →
        good bytes = .next (ended (s.withLane { s.lane with
          staging := s.lane.staging ++ [{ c with cell := { c.cell with slot := some f.slot } }],
          service := some { v with current := none } }) g' w.ring
            ⟨.partially, BitVec.ofNat 16 (last - w.code), 0⟩)) ∧
    ∀ (v : LaneService) (c next : StagedCell) (rest : List StagedCell) (w : GlyphService) (face : FaceId),
      slot.defineWait = false → s.lane.service = some v → v.current = some c → v.todo = next :: rest →
      g.service = some w → w.entry.u8 0x04 = face.1 → w.code < (w.entry.half 0x0A).toNat →
      ∀ bytes g1 g2,
        let w' := { w with code := w.code + 1 }
        let edit (t : GlyphTable) :=
          t.lookup .laneEdit (s.laneAt v.lane).settings.face next.cell.code
        let preload (t : GlyphTable) :=
          ({ t with service := some w' } : GlyphTable).lookup .preload face (BitVec.ofNat 16 w'.code)
        let both (g' : GlyphTable) := Host.Outcome.next ((s.withGlyph g').withLane { s.lane with
          staging := s.lane.staging ++ [{ c with cell := { c.cell with slot := some f.slot } }],
          service := some { v with todo := rest, current := some next } })
        (audience = [.laneEdit, .preload] → edit (filled bytes 1) = (g1, []) → preload g1 = (g2, []) →
          good bytes = both g2) ∧
        (audience = [.preload, .laneEdit] → preload (filled bytes 1) = (g1, []) → edit g1 = (g2, []) →
          good bytes = both g2)

/-- Lookups (R11 to R17, Table 9): an EMPTY face answers NOT_SET; a key held in a slot that is not FILLING
answers that slot, pinned for a pinning requester; a FILLING slot is waited for; a key in the face's range that
is not held waits behind a fetch in progress, or takes the head of the reclaim list where no slot is FREE, or
answers NO_SLOT; a code outside the range goes by the substitute code, and answers MISSING where that is
outside, too. -/
def Obligations.LookupsAnswerWaitOrFetch : Prop :=
  ∀ (g : GlyphTable) (who : Requester) (f : FaceId) (code : Half),
    let face := g.faces[f]
    let pins := who = .text ∨ who = .laneEdit
    let covers (c : Half) := face.first.toNat ≤ c.toNat ∧ c.toNat ≤ face.last.toNat
    (face.state = .empty → g.lookup who f code = (g, [.answered who .notSet])) ∧
    ∀ settled : Half, face.state = .loaded →
      (settled = code ∧ (g.slotOf ⟨f, code⟩ ≠ none ∨ covers code)) ∨
        (settled = face.substitute ∧ g.slotOf ⟨f, code⟩ = none ∧ ¬covers code) →
      (∀ n, g.slotOf ⟨f, settled⟩ = some n → g.slots[n].state = .filling → g.lookup who f code =
        ({ g with slots := update g.slots n { g.slots[n] with waiters := g.slots[n].waiters ++ [who] } }, [])) ∧
      (∀ n, g.slotOf ⟨f, settled⟩ = some n → g.slots[n].state ≠ .filling → pins → g.lookup who f code =
        ({ g with
          slots := update g.slots n { g.slots[n] with pins := g.slots[n].pins + 1 },
          reclaim := if g.slots[n].state = .resident ∧ g.slots[n].pins = 0 then
            g.reclaim.filter (· != n) else g.reclaim }, [.answered who (.slot n)])) ∧
      (g.slotOf ⟨f, settled⟩ = none → covers settled → g.fetch ≠ none → g.lookup who f code =
        ({ g with queue := g.queue ++ [⟨who, ⟨f, settled⟩⟩] }, [])) ∧
      (∀ n rest, g.slotOf ⟨f, settled⟩ = none → covers settled → g.fetch = none → g.queue = [] →
        who ≠ .define → (∀ m : SlotId, g.slots[m].state ≠ .free) → g.reclaim = n :: rest →
        g.lookup who f code = ({ g with
          reclaim := rest,
          slots := update g.slots n { g.slots[n] with
            state := .filling, key := some ⟨f, settled⟩, waiters := [], defineWait := false },
          fetch := some ⟨n, some who,
            face.base.toNat + (settled.toNat - face.first.toNat) * face.stride, face.height * 2⟩ }, [])) ∧
      (g.slotOf ⟨f, settled⟩ = none → covers settled → g.fetch = none → g.queue = [] →
        who ≠ .define → (∀ m : SlotId, g.slots[m].state ≠ .free) → g.reclaim = [] →
        g.lookup who f code = (g, [.answered who .noSlot])) ∧
      (g.slotOf ⟨f, settled⟩ = none → ¬covers settled → g.lookup who f code = (g, [.answered who .missing]))

/-- Every step keeps the reclaim list: it holds exactly the RESIDENT slots without pins, each once, and the slot
of the fetch in progress stays FILLING (R8, R9, R17). -/
def Obligations.EveryStepKeepsTheReclaimList : Prop :=
  ∀ s t : State, s.ReclaimAgrees → step s = .next t → t.ReclaimAgrees

/-! ## The Surface Table -/

/-- SURFACE_SET and CLIP_SET (R94 to R96): the checks in their order; a surface that nothing holds or draws on
takes the new descriptor with its full clip, or as its clip the given rectangle's intersection with the surface:
exactly the pixels of the surface that lie in the rectangle, and EMPTY where there is none. Nothing else
changes. That an entry handed over before a fatal fault is so taken until the halt's announcement is the model's
choice (log entry 33). -/
def Obligations.SurfaceEntriesSetASurface : Prop :=
  ∀ (s : State) (r : RingId) (e : WorkEntry), s.part ≠ .resetting → s.waitsAt r e →
    let fails (command : Instr) (status : Status) := exec command s = .next (s.answered r (.failed status))
    let used (k : Surface) := k.hold ≠ .none ∨ k.mark = true
    (e.kind = some .surfaceSet →
      let a := e.surfaceSetArgs
      let rowBytes := (a.width * a.depth + 7) / 8
      let fits (last : Nat) := (1 ≤ a.width ∧ a.width ≤ 4096) ∧ (1 ≤ a.height ∧ a.height ≤ 4096) ∧
        (a.depth = 1 ∨ a.depth = 2 ∨ a.depth = 4 ∨ a.depth = 8) ∧ a.base.toNat % 4 = 0 ∧ a.pitch % 4 = 0 ∧
        rowBytes ≤ a.pitch ∧ a.pitch ≤ 65532 ∧ a.base.toNat + (a.height - 1) * a.pitch + rowBytes - 1 ≤ last
      (16 ≤ a.surface ∨ a.space = none → fails (.surfaceSet r) .badOperand) ∧
      ∀ (n : SurfaceId) (space : Space), a.surface = n.1 → a.space = some space →
        let last := if space = .loc then 0xFFFFF else 0xFFFFFFFF
        (¬fits last → fails (.surfaceSet r) .badOperand) ∧
        (fits last → used (s.surfaceAt n) → fails (.surfaceSet r) .inUse) ∧
        (fits last → ¬used (s.surfaceAt n) → exec (.surfaceSet r) s =
          .next ((s.withSurfaces (update s.surfaces n
            { state := .set, space := space, base := a.base, width := a.width, height := a.height,
              depth := a.depth, pitch := a.pitch, clip := some ⟨0, 0, a.width - 1, a.height - 1⟩, hold := .none,
              mark := false })).answered r .done))) ∧
    (e.kind = some .clipSet →
      let a := e.clipSetArgs
      let inRange (c : Int) := -4096 ≤ c ∧ c ≤ 8191
      let valid := inRange a.x0 ∧ inRange a.y0 ∧ inRange a.x1 ∧ inRange a.y1 ∧ a.x0 ≤ a.x1 ∧ a.y0 ≤ a.y1
      (16 ≤ a.surface → fails (.clipSet r) .badOperand) ∧
      ∀ n : SurfaceId, a.surface = n.1 →
        let k := s.surfaceAt n
        (¬valid → fails (.clipSet r) .badOperand) ∧
        (valid → k.state = .unset → fails (.clipSet r) .notSet) ∧
        (valid → k.state = .set → used k → fails (.clipSet r) .inUse) ∧
        (valid → k.state = .set → ¬used k →
          let inside (x y : Nat) :=
            (x < k.width ∧ y < k.height) ∧ (a.x0 ≤ x ∧ x ≤ a.x1) ∧ a.y0 ≤ y ∧ y ≤ a.y1
          let clip : Option Clip :=
            if a.x1 < 0 ∨ a.y1 < 0 ∨ k.width ≤ max a.x0 0 ∨ k.height ≤ max a.y0 0 then none
            else some ⟨(max a.x0 0).toNat, (max a.y0 0).toNat, (min a.x1 (k.width - 1)).toNat,
              (min a.y1 (k.height - 1)).toNat⟩
          exec (.clipSet r) s =
            .next ((s.withSurfaces (update s.surfaces n { k with clip := clip })).answered r .done) ∧
          (∀ x y : Nat, (∃ c, clip = some c ∧ (c.x0 ≤ x ∧ x ≤ c.x1) ∧ c.y0 ≤ y ∧ y ≤ c.y1) ↔ inside x y) ∧
          (clip = none ↔ ∀ x y : Nat, ¬inside x y)))

/-! ## The Raster Engine -/

/-- FILL, COPY, EXPAND and TEXT on an IDLE engine (R107 to R110, R128): the operands, then the surfaces and the
face named, then the destination coordinates, then the checks of the kind, each failing with its status and no
other effect. While the part is HALTED, no claim reaches the engine; that none does while it is IDLE or LOADING
is the model's inference (log entry 38). -/
def Obligations.RasterEntriesAreValidatedInOrder : Prop :=
  (∀ (s : State) (r : RingId) (command : Instr),
    command ∈ [Instr.fill r, .copy r, .expand r, .text r] →
    s.part = .halted ∨ s.part = .idle ∨ s.part = .loading → exec command s = .next s) ∧
  ∀ (s : State) (r : RingId) (e : WorkEntry) (kind : Kind) (command : Instr),
    s.part = .running → s.waitsAt r e → s.rasterIdle → e.kind = some kind →
    (kind, command) ∈ [(Kind.fill, Instr.fill r), (.copy, .copy r), (.expand, .expand r), (.text, .text r)] →
    let a := e.rasterArgs
    let fails (status : Status) := exec command s = .next (s.answered r (.failed status))
    let reads := kind = .copy ∨ kind = .expand
    let operands := a.dst ≠ none ∧ (reads → a.src ≠ none) ∧ a.mix ≠ none ∧ a.wrap ≠ none ∧ a.keyed ≠ none ∧
      a.paperClear ≠ none ∧
      (kind = .text → a.face ≠ none ∧ (1 ≤ a.count ∧ a.count ≤ 256) ∧ a.listAddr.toNat % 2 = 0)
    let dst := s.blocks.surface a.dst
    let src := s.blocks.surface a.src
    let unset := dst.state = .unset ∨ (reads ∧ src.state = .unset) ∨
      (kind = .text ∧ ∀ f, a.face = some f → s.glyph.faces[f].state = .empty)
    let inRange (c : Int) := -4096 ≤ c ∧ c ≤ 8191
    let coordinates := (kind = .text → inRange a.dx ∧ inRange a.dy) ∧
      (kind ≠ .text → (1 ≤ a.w ∧ a.w ≤ 4096) ∧ (1 ≤ a.h ∧ a.h ≤ 4096) ∧
        inRange a.dx ∧ inRange (a.dx + a.w - 1) ∧ inRange a.dy ∧ inRange (a.dy + a.h - 1))
    let source := (a.wrap = some true → a.src ≠ a.dst ∧ a.sx < src.width ∧ a.sy < src.height) ∧
      (a.wrap = some false → a.sx + a.w ≤ src.width ∧ a.sy + a.h ≤ src.height)
    let kindChecks := (kind = .copy → src.depth = dst.depth ∧ source) ∧
      (kind = .expand → src.depth = 1 ∧ source)
    (¬operands → fails .badOperand) ∧
    (operands → unset → fails .notSet) ∧
    (operands → ¬unset → ¬coordinates → fails .badOperand) ∧
    (operands → ¬unset → coordinates → ¬kindChecks → fails .badOperand) ∧
    (operands → ¬unset → coordinates → kindChecks → s.blocks.rasterFails a = none)

/-- FILL, COPY, EXPAND and TEXT that pass validation on an IDLE engine (R98, R107, R112, R113, R116 to R122):
with no pixel admitted by the scissor the operation completes OK at once; otherwise the surfaces named are
marked and the first admitted pixel in working order takes its first transfer, of the source pixel or of the
destination byte; TEXT captures the face metrics and reads its code list. -/
def Obligations.RasterEntriesBeginTheirOperation : Prop :=
  ∀ (s : State) (r : RingId) (e : WorkEntry) (kind : Kind) (command : Instr) (d : SurfaceId),
    s.part = .running → s.waitsAt r e → s.rasterIdle → e.kind = some kind →
    (kind, command) ∈ [(Kind.fill, Instr.fill r), (.copy, .copy r), (.expand, .expand r), (.text, .text r)] →
    s.blocks.rasterFails e.rasterArgs = none → (∀ n, (s.surfaceAt n).mark = false) → e.rasterArgs.dst = some d →
    let a := e.rasterArgs
    let dst := s.surfaceAt d
    let src := s.blocks.surface a.src
    let begun (engine : RasterEngine) := ∃ marked : Vector Surface 16,
      exec command s = .next (((s.clearHandover r).withSurfaces marked).withRaster engine) ∧
      ∀ n : SurfaceId, marked[n] = { s.surfaceAt n with mark := decide (n = d ∨ a.src = some n) }
    let admits (x y : Nat) := (a.dx ≤ x ∧ x ≤ a.dx + a.w - 1) ∧ (a.dy ≤ y ∧ y ≤ a.dy + a.h - 1) ∧
      ∃ c, dst.clip = some c ∧ (c.x0 ≤ x ∧ x ≤ c.x1) ∧ c.y0 ≤ y ∧ y ≤ c.y1
    (kind ≠ .text → (∀ x y, ¬admits x y) → exec command s = .next (s.answered r .done)) ∧
    (kind ≠ .text → ∀ x y, admits x y →
      (∀ x' y', admits x' y' →
        (if a.src = a.dst ∧ (a.sx : Int) < a.dx then x' ≤ x else x ≤ x') ∧
        (if a.src = a.dst ∧ (a.sy : Int) < a.dy then y' ≤ y else y ≤ y')) →
      let colour := a.ink &&& depthMask dst.depth
      let u := a.sx + ((x : Int) - a.dx).toNat
      let v := a.sy + ((y : Int) - a.dy).toNat
      let sx := if a.wrap = some true then u % src.width else u
      let sy := if a.wrap = some true then v % src.height else v
      let transfer : RasterTransfer := if kind = .fill then
          { kind := if a.mix = some .replace ∧ 8 ≤ dst.depth then .destWrite colour else .destRead colour,
            space := dst.space, addr := dst.base.toNat + y * dst.pitch + x * dst.depth / 8 }
        else { kind := .sourceRead, space := src.space,
               addr := src.base.toNat + sy * src.pitch + sx * src.depth / 8 }
      begun { s.raster with
        step := .drawing, service := some ⟨r, (s.ring r).cls, e⟩, drawing := some ⟨0, 0, 0, transfer⟩ }) ∧
    (∀ f, kind = .text → a.face = some f → begun { s.raster with
      step := .readingList, service := some ⟨r, (s.ring r).cls, e⟩,
      metrics := ⟨s.glyph.faces[f].width, s.glyph.faces[f].height, s.glyph.faces[f].advance⟩,
      codeRead := some ⟨a.listAddr.toNat, a.count * 2⟩ })

/-- CODE_LIST_READ_END (R114, R122 to R126), no claim waiting: a bus error ends the TEXT with BUS_ERROR;
otherwise the codes are kept and code 0 is looked up. A lookup that waits leaves the engine LOOKING_UP; one
answered with a slot begins the stamp at its first admitted pixel, of ink or paper as the slot's bitmap says;
one answered without a slot makes a missing glyph, and under paper clear a TEXT of one code then completes
PARTIAL. A read whose TEXT was abandoned ends without effect. A read shorter than what it asked for would read
on with 00H (the model's choice, log entry 11). Between a fatal fault and the engine's announcement this holds
as in RUNNING by the model's choice (log entry 41). -/
def Obligations.CodeListReadEndLooksUpTheFirstCode : Prop :=
  (∀ (s : State) (c : Claim) (span : ReadSpan) (f : FaceId) (d : SurfaceId) (mix : Mix),
    let a := c.entry.rasterArgs
    let dst := s.surfaceAt d
    let m := s.raster.metrics
    s.part ≠ .resetting → s.raster = { RasterEngine.idle with
      step := .readingList, service := some c, codeRead := some span, metrics := m,
      lostReads := s.raster.lostReads } →
    c.entry.kind = some .text → a.face = some f → a.dst = some d → a.mix = some mix → 1 ≤ a.count →
    (s.ring c.ring).awaitsAnswer = true →
    let ended (g : GlyphTable) (x : Answer) :=
      (((s.withGlyph g).withSurfaces (update s.surfaces d { dst with mark := false })).withRaster
        { RasterEngine.idle with lostReads := s.raster.lostReads }).withTransit
          { s.transit with answers := update s.transit.answers c.ring (some x) }
    exec (.codeListReadEnd .busError) s = .next (ended s.glyph (.failed .busError)) ∧
    ∀ bytes : List Byte,
      let command := exec (.codeListReadEnd (.ok bytes)) s
      let engine := { s.raster with
        step := .lookingUp, codeRead := none,
        codes := (List.range a.count).map fun i => byteAt bytes (2 * i + 1) ++ byteAt bytes (2 * i) }
      let looked := s.glyph.lookup .text f (byteAt bytes 1 ++ byteAt bytes 0)
      let admits (x y : Nat) := (a.dx ≤ x ∧ x ≤ a.dx + m.advance - 1) ∧ (a.dy ≤ y ∧ y ≤ a.dy + m.height - 1) ∧
        ∃ clip, dst.clip = some clip ∧ (clip.x0 ≤ x ∧ x ≤ clip.x1) ∧ clip.y0 ≤ y ∧ y ≤ clip.y1
      (∀ g, looked = (g, []) → command = .next ((s.withGlyph g).withRaster engine)) ∧
      (∀ g n x y, looked = (g, [.answered .text (.slot n)]) → a.paperClear = some false → admits x y →
        (∀ x' y', admits x' y' → x ≤ x' ∧ y ≤ y') →
        let bits := g.slots[n].bitmap.toArray.getD ((y : Int) - a.dy).toNat 0
        let u := ((x : Int) - a.dx).toNat
        let ink := u < min m.width m.advance ∧ bits.getMsbD u = true
        let value := (if ink then a.ink else a.paper) &&& depthMask dst.depth
        command = .next ((s.withGlyph g).withRaster { engine with
          step := .drawing, stamp := some ⟨some n⟩, drawing := some ⟨0, 0, bits,
            { kind := if mix = .replace ∧ 8 ≤ dst.depth then .destWrite value else .destRead value,
              space := dst.space, addr := dst.base.toNat + y * dst.pitch + x * dst.depth / 8 }⟩ })) ∧
      (∀ g answer, answer = .missing ∨ answer = .noSlot ∨ answer = .notSet →
        looked = (g, [.answered .text answer]) → a.count = 1 → a.paperClear = some true →
        command = .next (ended g ⟨.partially, 1, 0⟩))) ∧
  ∀ (s : State) (read : ReadEnd), s.part ≠ .resetting → s.raster.codeRead = none →
    exec (.codeListReadEnd read) s = .next (s.withRaster { s.raster with lostReads := s.raster.lostReads.tail })

/-- RASTER_TRANSFER_END (R92, R112 to R115, R118, R120, R123 to R126, R128): the source pixel read settles the
value, or leaves the pixel; the destination byte read is written back with the pixel's bits alone mixed; a byte
written to a LOCAL surface changes that byte of frame memory and no other; then the next pixel of the row, the
next row, or the end of the operation follows, an abandoned operation ending with its row; a bus error of a HOST
transfer ends the operation with BUS_ERROR. A TEXT draws its stamp so, ink where the row's bitmap has 1 and
paper elsewhere unless that is clear; when the stamp ends its slot is unpinned, and the next code is looked up
or the TEXT completes, PARTIAL where glyphs were missing; a bus error unpins the stamp, too. That an operation
moves one pixel at a time, one transfer in flight, is the model's inference (log entry 22). A LOCAL address
above 0FFFFFH, which does not exist, stops the model (its choice, log entry 21). Between a fatal fault and the
engine's announcement this holds as in RUNNING by the model's choice (log entry 41). -/
def Obligations.PixelTransfersDrawTheRectangle : Prop :=
  (∀ (s : State) (c : Claim) (d : Drawing), s.part ≠ .resetting → s.raster.service = some c →
    s.raster.drawing = some d → s.raster.claims = [] → s.raster.stamp = none →
    c.entry.kind = some .fill ∨ c.entry.kind = some .copy ∨ c.entry.kind = some .expand →
    (s.ring c.ring).awaitsAnswer = true →
    let a := c.entry.rasterArgs
    let k := s.blocks.work c
    let x := k.column d.column
    let y := k.row d.row
    let t := d.transfer
    let depth := k.dst.depth
    let engine (drawing : Drawing) := { s.raster with drawing := some drawing }
    let idle : RasterEngine := { RasterEngine.idle with lostReads := s.raster.lostReads }
    let cleared (marks : Vector Surface 16) := ∀ n : SurfaceId, marks[n] =
      { s.surfaceAt n with mark := (s.surfaceAt n).mark && !decide (a.dst = some n ∨ a.src = some n) }
    let ended (m : Memory) (x : Answer) (outcome : Host.Outcome State Fault Refusal) := ∃ marks, cleared marks ∧
      outcome = .next ((((s.withFrameMemory m).withSurfaces marks).withRaster idle).withTransit
        { s.transit with answers := update s.transit.answers c.ring (some x) })
    (∀ read, t.space = .loc → 0x100000 ≤ t.addr →
      exec (.rasterTransferEnd read) s = .fault (.outsideFrameMemory t.addr)) ∧
    (t.space = .host → s.raster.finishing = false →
      ended s.frameMemory (.failed .busError) (exec (.rasterTransferEnd .busError) s)) ∧
    ∀ (read : ReadEnd) (byte : Byte),
      (t.space = .loc ∧ t.addr < 0x100000 ∧ byte = s.frameMemory.read t.addr) ∨
        (t.space = .host ∧ ∃ bytes, read = .ok bytes ∧ byte = byteAt bytes 0) →
      let command := exec (.rasterTransferEnd read) s
      (∀ value, t.kind = .sourceRead → k.sourceValue d.column byte = some value →
        command = .next (s.withRaster (engine { d with transfer :=
          { kind := if k.mix = .replace ∧ 8 ≤ depth then .destWrite value else .destRead value,
            space := k.dst.space, addr := k.dst.pixelAddr x y } }))) ∧
      (t.kind = .sourceRead → k.sourceValue d.column byte = none → d.column + 1 < k.area.columns →
        command = .next (s.withRaster (engine { d with
          column := d.column + 1, transfer := k.firstTransfer d.rowBits d.row (d.column + 1) }))) ∧
      (t.kind = .sourceRead → k.sourceValue d.column byte = none → d.column + 1 = k.area.columns →
        (s.raster.finishing = true → ∃ marks, cleared marks ∧
          command = .next ((s.withSurfaces marks).withRaster idle)) ∧
        (s.raster.finishing = false → d.row + 1 < k.area.rows → command =
          .next (s.withRaster { s.raster with
            step := .drawing, drawing := some ⟨d.row + 1, 0, 0, k.firstTransfer 0 (d.row + 1) 0⟩ })) ∧
        (s.raster.finishing = false → d.row + 1 = k.area.rows → ended s.frameMemory .done command)) ∧
      (∀ value, t.kind = .destRead value → command = .next (s.withRaster (engine { d with transfer :=
        { t with
          kind := .destWrite
            (insertPixel depth x byte (k.mix.value depth value (pixelOf depth x byte))) } }))) ∧
      ∀ stored, t.kind = .destWrite stored →
        let m := t.stored s.frameMemory
        (t.space = .host → m = s.frameMemory) ∧
        (t.space = .loc → s.frameMemory.wf = true →
          ∀ b, m.read b = if b = t.addr then stored else s.frameMemory.read b) ∧
        (d.column + 1 < k.area.columns → command =
          .next ((s.withFrameMemory m).withRaster (engine { d with
            column := d.column + 1, transfer := k.firstTransfer d.rowBits d.row (d.column + 1) }))) ∧
        (d.column + 1 = k.area.columns → s.raster.finishing = true → ∃ marks, cleared marks ∧ command =
          .next (((s.withFrameMemory m).withSurfaces marks).withRaster idle)) ∧
        (d.column + 1 = k.area.columns → s.raster.finishing = false → d.row + 1 < k.area.rows → command =
          .next ((s.withFrameMemory m).withRaster { s.raster with
            step := .drawing, drawing := some ⟨d.row + 1, 0, 0, k.firstTransfer 0 (d.row + 1) 0⟩ })) ∧
        (d.column + 1 = k.area.columns → s.raster.finishing = false → d.row + 1 = k.area.rows →
          ended m .done command)) ∧
  ∀ (s : State) (c : Claim) (d : Drawing) (slot : Option SlotId) (f : FaceId), s.part ≠ .resetting →
    s.raster.service = some c → s.raster.drawing = some d → s.raster.stamp = some ⟨slot⟩ → s.raster.claims = [] →
    c.entry.kind = some .text → c.entry.rasterArgs.face = some f → (s.ring c.ring).awaitsAnswer = true →
    let a := c.entry.rasterArgs
    let k := s.blocks.work c
    let t := d.transfer
    let depth := k.dst.depth
    let m := s.raster.metrics
    let columns := k.area.columns
    let rows := k.area.rows
    let rowBits (row : Nat) : Half :=
      match slot with
      | some n => s.glyph.slots[n].bitmap.toArray.getD (((k.area.y0 + row : Nat) : Int) - a.dy).toNat 0
      | none => 0
    let ink (bits : Half) (column : Nat) : Bool :=
      let u := (((k.area.x0 + column : Nat) : Int) - (a.dx + s.raster.codeIndex * m.advance)).toNat
      slot.isSome && decide (u < min m.width m.advance) && bits.getMsbD u
    let wanted (bits : Half) (column : Nat) : Prop := ink bits column = true ∨ a.paperClear ≠ some true
    let transfer (bits : Half) (row column : Nat) : RasterTransfer :=
      let value := (if ink bits column = true then a.ink else a.paper) &&& depthMask depth
      { kind := if k.mix = .replace ∧ 8 ≤ depth then .destWrite value else .destRead value,
        space := k.dst.space, addr := k.dst.pixelAddr (k.area.x0 + column) (k.area.y0 + row) }
    let unpinned := match slot with
      | some n => s.glyph.unpin n
      | none => s.glyph
    let engine (drawing : Drawing) := { s.raster with step := .drawing, drawing := some drawing }
    let idle : RasterEngine := { RasterEngine.idle with lostReads := s.raster.lostReads }
    let cleared (marks : Vector Surface 16) := ∀ n : SurfaceId, marks[n] =
      { s.surfaceAt n with mark := (s.surfaceAt n).mark && !decide (a.dst = some n ∨ a.src = some n) }
    let ended (m : Memory) (x : Answer) (outcome : Host.Outcome State Fault Refusal) := ∃ marks, cleared marks ∧
      outcome = .next (((((s.withFrameMemory m).withGlyph unpinned).withSurfaces marks).withRaster idle).withTransit
        { s.transit with answers := update s.transit.answers c.ring (some x) })
    (t.space = .host → s.raster.finishing = false →
      ended s.frameMemory (.failed .busError) (exec (.rasterTransferEnd .busError) s)) ∧
    ∀ (read : ReadEnd) (byte : Byte),
      (t.space = .loc ∧ t.addr < 0x100000 ∧ byte = s.frameMemory.read t.addr) ∨
        (t.space = .host ∧ ∃ bytes, read = .ok bytes ∧ byte = byteAt bytes 0) →
      let command := exec (.rasterTransferEnd read) s
      (∀ value, t.kind = .destRead value → command = .next (s.withRaster { s.raster with
        drawing := some { d with transfer := { t with
          kind := .destWrite (insertPixel depth (k.column d.column) byte
            (k.mix.value depth value (pixelOf depth (k.column d.column) byte))) } } })) ∧
      ∀ stored, t.kind = .destWrite stored →
        let mem := t.stored s.frameMemory
        let rowDone := ∀ j, d.column < j → j < columns → ¬wanted d.rowBits j
        let blank (i : Nat) := ∀ j < columns, ¬wanted (rowBits i) j
        (∀ x, s.raster.step = .drawing → d.column < x → x < columns → wanted d.rowBits x →
          (∀ j, d.column < j → j < x → ¬wanted d.rowBits j) → command =
          .next ((s.withFrameMemory mem).withRaster (engine { d with
            column := x, transfer := transfer d.rowBits d.row x }))) ∧
        (rowDone → s.raster.finishing = true → ∃ marks, cleared marks ∧ command =
          .next ((((s.withFrameMemory mem).withGlyph unpinned).withSurfaces marks).withRaster idle)) ∧
        (∀ x y, rowDone → s.raster.finishing = false → d.row < y → y < rows → x < columns →
          wanted (rowBits y) x → (∀ j < x, ¬wanted (rowBits y) j) →
          (∀ i, d.row < i → i < y → blank i) → command =
          .next ((s.withFrameMemory mem).withRaster (engine
            ⟨y, x, rowBits y, transfer (rowBits y) y x⟩))) ∧
        (∀ g', rowDone → s.raster.finishing = false → (∀ i, d.row < i → i < rows → blank i) →
          s.raster.codeIndex + 1 < s.raster.codes.length →
          unpinned.lookup .text f (s.raster.codes.getD (s.raster.codeIndex + 1) 0) = (g', []) → command =
          .next (((s.withFrameMemory mem).withGlyph g').withRaster { s.raster with
            step := .lookingUp, stamp := none, drawing := none, codeIndex := s.raster.codeIndex + 1 })) ∧
        (rowDone → s.raster.finishing = false → (∀ i, d.row < i → i < rows → blank i) →
          s.raster.codes.length ≤ s.raster.codeIndex + 1 →
          ended mem (if s.raster.missing = 0 then .done else .partially s.raster.missing 0) command)

/-- The drawing rules (R91, R92, R101, R111, R118 to R120): a packed pixel's bits lie leftmost first, and
writing it changes no other bit of its byte; the mixes of Table 27; the scissor admits exactly the pixels of the
rectangle in the clip; KEYED and paper clear leave pixels unwritten; and where source and destination surface
are one, no pixel is read as source after the operation has written it. -/
def Obligations.DrawingRulesOfPixels : Prop :=
  (∀ (depth x : Nat) (byte value : Byte), depth = 1 ∨ depth = 2 ∨ depth = 4 ∨ depth = 8 →
    let first := x * depth % 8
    (∀ j < depth, (pixelOf depth x byte).getMsbD (8 - depth + j) = byte.getMsbD (first + j)) ∧
    (pixelOf depth x byte).toNat < 2 ^ depth ∧
    (∀ j < depth, (insertPixel depth x byte value).getMsbD (first + j) = value.getMsbD (8 - depth + j)) ∧
    (∀ i < 8, i < first ∨ first + depth ≤ i → (insertPixel depth x byte value).getMsbD i = byte.getMsbD i)) ∧
  (∀ (depth : Nat) (v d : Byte), 1 ≤ depth → depth ≤ 8 → v.toNat < 2 ^ depth → d.toNat < 2 ^ depth →
    Mix.replace.value depth v d = v ∧ Mix.and.value depth v d = v &&& d ∧ Mix.or.value depth v d = v ||| d ∧
    Mix.xor.value depth v d = v ^^^ d ∧ (Mix.invert.value depth v d).toNat = 2 ^ depth - 1 - d.toNat ∧
    (Mix.addSat.value depth v d).toNat = min (v.toNat + d.toNat) (2 ^ depth - 1)) ∧
  (∀ (clip : Clip) (dx dy : Int) (w h x y : Nat),
    let area := admitted (some clip) dx dy w h
    ((area.x0 ≤ x ∧ x < area.x0 + area.columns) ∧ (area.y0 ≤ y ∧ y < area.y0 + area.rows)) ∧
        0 < area.columns ∧ 0 < area.rows ↔
      ((clip.x0 ≤ x ∧ x ≤ clip.x1) ∧ (clip.y0 ≤ y ∧ y ≤ clip.y1)) ∧
        (dx ≤ x ∧ x < dx + w) ∧ (dy ≤ y ∧ y < dy + h)) ∧
  (∀ (k : Work) (p : Nat) (byte : Byte),
    let v := pixelOf k.src.depth (k.sourceColumn (k.column p)) byte
    let mask := depthMask k.dst.depth
    (k.args.kind = .copy → k.args.keyed = some true → v = k.args.ink &&& mask → k.sourceValue p byte = none) ∧
    (k.args.kind = .copy → k.args.keyed = some true → v ≠ k.args.ink &&& mask →
      k.sourceValue p byte = some v) ∧
    (k.args.kind = .copy → k.args.keyed = some false → k.sourceValue p byte = some v) ∧
    (k.args.kind = .expand → v = 1 → k.sourceValue p byte = some (k.args.ink &&& mask)) ∧
    (k.args.kind = .expand → v ≠ 1 → k.args.paperClear = some false →
      k.sourceValue p byte = some (k.args.paper &&& mask)) ∧
    (k.args.kind = .expand → v ≠ 1 → k.args.paperClear = some true → k.sourceValue p byte = none)) ∧
  (∀ (b : Blocks) (c : Claim) (r p r' p' : Nat),
    let k := b.work c
    let a := c.entry.rasterArgs
    a.kind = .copy ∨ a.kind = .expand → a.src = a.dst → a.wrap = some false →
    r' < k.area.rows → p < k.area.columns → p' < k.area.columns → r < r' ∨ (r = r' ∧ p < p') →
    ¬(k.sourceColumn (k.column p') = k.column p ∧ k.sourceRow (k.row r') = k.row r))

/-! ## The Lane Unit's entries -/

/-- LANE_SET, and LANE_VIEW SHOW, HIDE and RELEASE, at a Lane Unit without other entries (R8, R9, R33 to R35,
R48, R51): the checks with their statuses; an UNSET lane becomes SET with the entry's settings, HIDDEN and
empty; a SET one takes the settings and comes to rest with cells, cursor, visibility and record kept; SHOW and
HIDE set the visibility; RELEASE unpins the cells' slots in ascending position and makes the lane UNSET. An
entry of no known operation is taken by the first row of its kind (the model's choice, log entry 8). That an
entry handed over before a fatal fault is so taken until the halt's announcement is the model's choice (log
entry 33). -/
def Obligations.LaneSetAndLaneViewChangeALane : Prop :=
  ∀ (s : State) (r : RingId) (e : WorkEntry), s.part ≠ .resetting → s.waitsAt r e → s.laneFree →
    let fails (command : Instr) (status : Status) := exec command s = .next (s.answered r (.failed status))
    let ended (command : Instr) (g : GlyphTable) (l : LaneId) (k : Lane) := exec command s =
      .next (((s.withGlyph g).withLane { s.lane with lanes := update s.lane.lanes l k }).answered r .done)
    (e.kind = some .laneSet →
      let a := e.laneSetArgs
      let valid := a.lane < 8 ∧ a.face < 8 ∧ (0 < a.w ∧ 0 < a.h) ∧ a.x + a.w ≤ s.presentation.panelWidth ∧
        a.y + a.h ≤ s.presentation.panelHeight ∧ a.verticalOffset ≤ 31 ∧ (1 ≤ a.interval ∧ a.interval ≤ 64) ∧
        (1 ≤ a.hold ∧ a.hold ≤ 255) ∧ a.gap ≤ 1023 ∧ a.mode ≠ none ∧ a.direction ≠ none ∧ a.events ≠ none ∧
        a.signal ≠ none
      (¬valid → fails (.laneSet r) .badOperand) ∧
      ∀ (l : LaneId) (f : FaceId) (mode : MotionMode) (direction : Direction) (events : EventSetting)
        (signal : Option CounterId), valid → a.lane = l.1 → a.face = f.1 → a.mode = some mode →
        a.direction = some direction → a.events = some events → a.signal = some signal →
        let k := s.laneAt l
        let settings : LaneSettings :=
          { x := a.x, y := a.y, w := a.w, h := a.h, face := f, ink := a.ink, paper := a.paper, altInk := a.altInk,
            paperClear := a.paperClear, verticalOffset := a.verticalOffset, mode := mode, direction := direction,
            interval := a.interval, hold := a.hold, gap := a.gap, repeats := a.repeats, events := events,
            signal := signal }
        let loaded := s.glyph.faces[f].state = .loaded
        (s.glyph.faces[f].state = .empty → fails (.laneSet r) .notSet) ∧
        (loaded → k.state = .set → k.cells ≠ [] → k.settings.face ≠ f → fails (.laneSet r) .inUse) ∧
        (loaded → k.state = .unset → ended (.laneSet r) s.glyph l
          { state := .set, visibility := .hidden, settings := settings, cells := [], cursor := 0,
            motion := .still, offset := 0, passCount := 0, countdown := 0, record := none }) ∧
        (loaded → k.state = .set → k.cells = [] ∨ k.settings.face = f → ended (.laneSet r) s.glyph l
          { k with settings := settings, motion := .still, offset := 0, passCount := 0, countdown := 0 })) ∧
    (e.kind = some .laneView →
      let commands := [(0, Instr.laneViewShow r), (1, .laneViewHide r), (2, .laneViewRefresh r),
        (3, .laneViewRelease r)]
      (4 ≤ e.operation → fails (.laneViewShow r) .badOperand) ∧
      (∀ command, (e.operation, command) ∈ commands → 8 ≤ e.u8 0x04 → fails command .badOperand) ∧
      ∀ l : LaneId, e.u8 0x04 = l.1 →
        let k := s.laneAt l
        (∀ command, (e.operation, command) ∈ commands → k.state = .unset → fails command .notSet) ∧
        (e.operation = 0 → k.state = .set → ended (.laneViewShow r) s.glyph l { k with visibility := .shown }) ∧
        (e.operation = 1 → k.state = .set → ended (.laneViewHide r) s.glyph l { k with visibility := .hidden }) ∧
        (e.operation = 3 → k.state = .set → ended (.laneViewRelease r)
          (GlyphTable.unpinAll (k.cells.map TextCell.slot) s.glyph) l Lane.none))

/-- LANE_TEXT WRITE and INSERT and LANE_VIEW REFRESH as they are taken (R37, R38, R49, R50): the checks; with no
room the edit completes PARTIAL with all cells dropped; otherwise the read of the cells that fit begins; REFRESH
looks up the first MISSING cell, or completes OK where there is none; where the one MISSING cell is answered at
once it takes its slot and the REFRESH completes OK, or stays MISSING and the REFRESH completes PARTIAL. An
entry of no known operation is taken by the first row of its kind (the model's choice, log entry 8). That an
entry handed over before a fatal fault is so taken until the halt's announcement is the model's choice (log
entry 33). -/
def Obligations.EditsBeginWithTheirReadOrLookup : Prop :=
  ∀ (s : State) (r : RingId) (e : WorkEntry) (l : LaneId), s.part ≠ .resetting → s.waitsAt r e → s.laneFree →
    e.u8 0x04 = l.1 →
    let k := s.laneAt l
    let fails (command : Instr) (status : Status) := exec command s = .next (s.answered r (.failed status))
    let serving (g : GlyphTable) (v : LaneService) :=
      ((s.clearHandover r).withGlyph g).withLane { s.lane with staging := [], service := some v }
    let n := e.u16 0x06
    let addr := (e.word 0x08).toNat
    let valid := (1 ≤ n ∧ n ≤ 128) ∧ addr % 4 = 0
    let loaded := s.glyph.faces[k.settings.face].state = .loaded
    (∀ edit command, (e.operation, edit, command) ∈ [(0, EditKind.write, Instr.laneTextWrite r),
        (1, .insert, .laneTextInsert r)] → e.kind = some .laneText →
      let room := 128 - (if edit = .write then k.cursor else k.cells.length)
      (k.state = .unset → fails command .notSet) ∧
      (k.state = .set → ¬valid → fails command .badOperand) ∧
      (k.state = .set → valid → ¬loaded → fails command .notSet) ∧
      (k.state = .set → valid → loaded → room = 0 → exec command s =
        .next ((s.modLane l fun k => k.adjust (s.advanceOf k)).answered r ⟨.partially, BitVec.ofNat 16 n, 0⟩)) ∧
      (k.state = .set → valid → loaded → 0 < room → exec command s = .next (serving s.glyph
        { ring := r, lane := l, edit := edit, dropped := n - min n room, todo := [], undelivered := min n room,
          current := none, read := some ⟨addr, min n room * 4⟩ }))) ∧
    (e.kind = some .laneText → 5 ≤ e.operation → fails (.laneTextWrite r) .badOperand) ∧
    (e.kind = some .laneView → e.operation = 2 → k.state = .set →
      (¬loaded → fails (.laneViewRefresh r) .notSet) ∧
      (loaded → (∀ cell ∈ k.cells, cell.slot ≠ none) → exec (.laneViewRefresh r) s =
        .next ((s.withLane { s.lane with staging := [] }).answered r .done)) ∧
      (∀ before cell after g, loaded → k.cells = before ++ cell :: after → (∀ x ∈ before, x.slot ≠ none) →
        cell.slot = none → s.glyph.lookup .laneEdit k.settings.face cell.code = (g, []) →
        exec (.laneViewRefresh r) s = .next (serving g
          { ring := r, lane := l, edit := .refresh, dropped := 0,
            todo := Blocks.missingCells (before.length + 1) after, undelivered := 0,
            current := some ⟨cell, before.length⟩, read := none })) ∧
      (∀ before cell after g answer, loaded → k.cells = before ++ cell :: after →
        (∀ x ∈ before ++ after, x.slot ≠ none) → cell.slot = none →
        s.glyph.lookup .laneEdit k.settings.face cell.code = (g, [.answered .laneEdit answer]) →
        (∀ n, answer = .slot n → exec (.laneViewRefresh r) s = .next (((s.withGlyph g).withLane { s.lane with
          lanes := update s.lane.lanes l { k with
            cells := before ++ { cell with slot := some n } :: after },
          staging := [] }).answered r .done)) ∧
        (answer = .missing ∨ answer = .noSlot ∨ answer = .notSet → exec (.laneViewRefresh r) s =
          .next (((s.withGlyph g).withLane { s.lane with staging := [] }).answered r ⟨.partially, 0, 1⟩))))

/-- CELL_LIST_READ_END (R39 to R44), no other entry waiting: records delivered while a lookup is outstanding
wait their turn; a bus error abandons the edit, which withdraws, unpins the staged cells and leaves the lane;
when the last record is answered, a WRITE replaces the cells from the cursor and unpins those that leave, an
INSERT puts its cells before them, and the answer counts dropped and MISSING cells. A read whose edit was
abandoned ends without effect. A read shorter than what it asked for would read on with 00H (the model's choice,
log entry 11). Between a fatal fault and the Lane Unit's announcement this holds as in RUNNING by the model's
choice (log entry 41). -/
def Obligations.CellListReadEndStagesAndCommits : Prop :=
  (∀ (s : State) (v : LaneService) (span : ReadSpan), s.part ≠ .resetting → s.lane.service = some v →
    v.read = some span → s.lane.entries = [] → (s.ring v.ring).awaitsAnswer = true →
    let g := if v.current = none then s.glyph else s.glyph.withdraw .laneEdit
    let answered (t : State) (a : Answer) :=
      t.withTransit { s.transit with answers := update s.transit.answers v.ring (some a) }
    exec (.cellListReadEnd false .busError) s = .next (answered ((s.withGlyph
      (GlyphTable.unpinAll (s.lane.staging.map fun c => c.cell.slot) g)).withLane { s.lane with
        staging := [], service := none }) (.failed .busError)) ∧
    (∀ bytes, v.current ≠ none → bytes.length ≤ 4 * v.undelivered →
      let n := bytes.length / 4
      exec (.cellListReadEnd false (.delivers bytes)) s = .next (s.withLane { s.lane with
        service := some { v with
          todo := v.todo ++ (List.range n).map (fun i => ⟨cellAt bytes i, 0⟩),
          undelivered := v.undelivered - n } })) ∧
    ∀ (bytes : List Byte) (g : GlyphTable) (answer : LookupAnswer) (slot : Option SlotId),
      v.current = none → v.todo = [] → v.undelivered = 1 → v.edit = .write ∨ v.edit = .insert →
      let k := s.laneAt v.lane
      s.glyph.lookup .laneEdit k.settings.face (cellAt bytes 0).code = (g, [.answered .laneEdit answer]) →
      (∃ n, answer = .slot n ∧ slot = some n) ∨
        ((answer = .missing ∨ answer = .noSlot ∨ answer = .notSet) ∧ slot = none) →
      let cells := s.lane.staging.map StagedCell.cell ++ [{ cellAt bytes 0 with slot := slot }]
      let missing := cells.countP fun c => c.slot.isNone
      let committed (leaving kept : List TextCell) :=
        let k' := { k with
          cells := k.cells.take k.cursor ++ cells ++ kept, cursor := k.cursor + cells.length }
        exec (.cellListReadEnd false (.ends bytes)) s = .next (answered ((s.withGlyph
          (GlyphTable.unpinAll (leaving.map TextCell.slot) g)).withLane { s.lane with
            lanes := update s.lane.lanes v.lane (k'.adjust (s.advanceOf k)), staging := [], service := none })
          (if v.dropped = 0 ∧ missing = 0 then .done else .partially v.dropped missing))
      (v.edit = .write → committed ((k.cells.drop k.cursor).take cells.length)
        (k.cells.drop (k.cursor + cells.length))) ∧
      (v.edit = .insert → committed [] (k.cells.drop k.cursor))) ∧
  (∀ (s : State) (bytes : List Byte), s.part ≠ .resetting →
    exec (.cellListReadEnd true (.delivers bytes)) s = .next s ∧
    exec (.cellListReadEnd true (.ends bytes)) s =
      .next (s.withLane { s.lane with lostReads := s.lane.lostReads.tail }))

/-- LANE_TEXT DELETE, CLEAR and CURSOR at a Lane Unit without other entries (R8, R9, R37, R45 to R47, R66): the
checks; the cells that leave are unpinned in ascending position, those behind them move down, and the offset is
adjusted to the new text; each slot loses one pin for each cell of it that leaves, and a RESIDENT slot that
loses its last pin joins the tail of the reclaim list. That an entry handed over before a fatal fault is so
taken until the halt's announcement is the model's choice (log entry 33). -/
def Obligations.LaneTextDeletesClearsAndMovesTheCursor : Prop :=
  (∀ (s : State) (r : RingId) (e : WorkEntry), s.part ≠ .resetting → s.waitsAt r e → s.laneFree →
    e.kind = some .laneText →
    let commands := [(0, Instr.laneTextWrite r), (1, .laneTextInsert r), (2, .laneTextDelete r),
      (3, .laneTextClear r), (4, .laneTextCursor r)]
    let fails (command : Instr) (status : Status) := exec command s = .next (s.answered r (.failed status))
    (∀ command, (e.operation, command) ∈ commands → 8 ≤ e.u8 0x04 → fails command .badOperand) ∧
    ∀ l : LaneId, e.u8 0x04 = l.1 →
      let k := s.laneAt l
      let n := e.u16 0x06
      let ended (command : Instr) (leaving : List TextCell) (k' : Lane) := exec command s =
        .next (((s.withGlyph (GlyphTable.unpinAll (leaving.map TextCell.slot) s.glyph)).withLane { s.lane with
          lanes := update s.lane.lanes l k' }).answered r .done)
      (∀ command, (e.operation, command) ∈ commands → k.state = .unset → fails command .notSet) ∧
      (e.operation = 2 → k.state = .set → ¬(1 ≤ n ∧ n ≤ 128) → fails (.laneTextDelete r) .badOperand) ∧
      (e.operation = 2 → k.state = .set → 1 ≤ n ∧ n ≤ 128 →
        ended (.laneTextDelete r) ((k.cells.drop k.cursor).take n)
          ({ k with cells := k.cells.take k.cursor ++ k.cells.drop (k.cursor + n) }.adjust (s.advanceOf k))) ∧
      (e.operation = 3 → k.state = .set →
        ended (.laneTextClear r) k.cells ({ k with cells := [], cursor := 0 }.adjust (s.advanceOf k))) ∧
      (e.operation = 4 → k.state = .set → k.cells.length < n → fails (.laneTextCursor r) .badOperand) ∧
      (e.operation = 4 → k.state = .set → n ≤ k.cells.length →
        ended (.laneTextCursor r) [] { k with cursor := n })) ∧
  (∀ (g : GlyphTable) (slots : List (Option SlotId)) (n : SlotId),
    (GlyphTable.unpinAll slots g).slots[n].pins = g.slots[n].pins - slots.count (some n)) ∧
  (∀ (g : GlyphTable) (n : SlotId), (g.unpin n).reclaim =
    if g.slots[n].state = .resident ∧ g.slots[n].pins = 1 then g.reclaim.filter (· != n) ++ [n] else g.reclaim) ∧
  ∀ (k : Lane) (advance : Nat),
    let w := k.cells.length * advance
    let l := w + k.settings.gap
    let offset := (k.adjust advance).offset
    k.adjust advance = { k with offset := offset } ∧
    (k.settings.mode = .fixed → offset = min k.offset w) ∧
    (k.settings.mode ≠ .fixed → l = 0 → offset = 0) ∧
    (k.settings.mode = .marquee → 0 < l → offset = k.offset % l) ∧
    (k.settings.mode = .step → 0 < l → offset ∈ k.stops advance ∧ offset ≤ k.offset % l ∧
      ∀ p ∈ k.stops advance, p ≤ k.offset % l → p ≤ offset)

/-- LANE_MOTION at a Lane Unit without other entries (R54, R55, R63 to R65, Tables 16 and 17): the checks, and
what START, PAUSE, RESUME, STOP and SET_OFFSET make of the motion state; nothing else of the lane changes. An
entry of no known operation is taken by the first row of its kind (the model's choice, log entry 8). That an
entry handed over before a fatal fault is so taken until the halt's announcement is the model's choice (log
entry 33). -/
def Obligations.LaneMotionOperationsFollowTable17 : Prop :=
  ∀ (s : State) (r : RingId) (e : WorkEntry), s.part ≠ .resetting → s.waitsAt r e → s.laneFree →
    e.kind = some .laneMotion →
    let commands := [(0, Instr.laneMotionStart r), (1, .laneMotionPause r), (2, .laneMotionResume r),
      (3, .laneMotionStop r), (4, .laneMotionSetOffset r)]
    let fails (command : Instr) (status : Status) := exec command s = .next (s.answered r (.failed status))
    (5 ≤ e.operation → fails (.laneMotionStart r) .badOperand) ∧
    (∀ command, (e.operation, command) ∈ commands → 8 ≤ e.u8 0x04 → fails command .badOperand) ∧
    ∀ l : LaneId, e.u8 0x04 = l.1 →
      let k := s.laneAt l
      let mode := k.settings.mode
      let ended (command : Instr) (k' : Lane) := exec command s =
        .next ((s.withLane { s.lane with lanes := update s.lane.lanes l k' }).answered r .done)
      (∀ command, (e.operation, command) ∈ commands → k.state = .unset → fails command .notSet) ∧
      (e.operation = 0 → k.state = .set → mode = .fixed → fails (.laneMotionStart r) .badOperand) ∧
      (e.operation = 0 → k.state = .set → mode ≠ .fixed → k.motion = .still → ended (.laneMotionStart r)
        { k with motion := .moving, passCount := 0,
                 countdown := if mode = .marquee then k.settings.interval else k.settings.hold }) ∧
      (e.operation = 0 → k.state = .set → mode ≠ .fixed → k.motion ≠ .still →
        ended (.laneMotionStart r) { k with motion := .moving }) ∧
      (e.operation = 1 → k.state = .set → ended (.laneMotionPause r)
        { k with motion := if k.motion = .moving then .paused else k.motion }) ∧
      (e.operation = 2 → k.state = .set → ended (.laneMotionResume r)
        { k with motion := if k.motion = .paused then .moving else k.motion }) ∧
      (e.operation = 3 → k.state = .set → ended (.laneMotionStop r)
        { k with motion := .still, offset := 0, countdown := 0 }) ∧
      (e.operation = 4 → k.state = .set →
        let p := e.u16 0x06
        let w := k.cells.length * s.advanceOf k
        let cycle := w + k.settings.gap
        let inRange := (mode = .fixed → p ≤ w) ∧ (mode ≠ .fixed → cycle = 0 → p = 0) ∧
          (mode ≠ .fixed → 0 < cycle → p < cycle) ∧
          (mode = .step → 0 < cycle → ∃ i ≤ k.cells.length, p = i * s.advanceOf k)
        (inRange → ended (.laneMotionSetOffset r) { k with offset := p }) ∧
        (¬inRange → fails (.laneMotionSetOffset r) .badOperand))

/-! ## The panel -/

/-- The background value of a panel pixel (R84): the blank colour of a front background of the form NONE, or the
byte of frame memory at base + (view y + py) × pitch + view x + px of the front surface. -/
def Obligations.BackgroundPixelsComeFromTheFront : Prop :=
  ∀ (s : State) (f : Frame) (px py : Nat), s.frame = some f → f.background = s.shownBackground →
    px < s.presentation.panelWidth → py < s.presentation.panelHeight →
    (∀ l : LaneId, f.lanes[l].state = .unset ∨ f.lanes[l].visibility = .hidden) →
    (∀ c, s.presentation.front = .blank c → s.panelPixel px py = some c) ∧
    (∀ n x y, s.presentation.front = .view n x y → s.panelPixel px py =
      some (s.frameMemory.read
        ((s.surfaceAt n).base.toNat + (y + py) * (s.surfaceAt n).pitch + x + px)))

/-- The lanes over the background (R68 to R70, R85, R89): the panel shows what the highest-numbered SET, SHOWN
lane draws at the pixel, and else the background; a lane draws a cell's ink, or its alternate ink where
highlighted, at ink-role pixels, and its paper elsewhere unless that is clear; a MISSING cell and one whose
blink class is OFF are paper throughout. The rows go out from row 0 to the last, each from px 0 to the last
pixel, with these values, and no row while there is no frame. -/
def Obligations.LanesAreComposedOverTheBackground : Prop :=
  (∀ s : State, (s.frame = none → s.panelRows = []) ∧
    (s.frame ≠ none → s.panelRows.length = s.presentation.panelHeight ∧
      ∀ (py : Nat) (row : List Byte), s.panelRows[py]? = some row →
        row.length = s.presentation.panelWidth ∧
        ∀ px < s.presentation.panelWidth, row[px]? = s.panelPixel px py)) ∧
  (∀ (s : State) (f : Frame) (px py : Nat), s.frame = some f → px < s.presentation.panelWidth →
    py < s.presentation.panelHeight →
    let draws (l : LaneId) (v : Byte) :=
      let k := f.lanes[l]
      let w := k.settings
      k.state = .set ∧ k.visibility = .shown ∧ (w.x ≤ px ∧ px < w.x + w.w) ∧ (w.y ≤ py ∧ py < w.y + w.h) ∧
        f.windowPixel k (px - w.x) (py - w.y) = some v
    (∀ l v, draws l v → (∀ m v', l < m → ¬draws m v') → s.panelPixel px py = some v) ∧
    ((∀ l v, ¬draws l v) → s.panelPixel px py = some (f.backgroundPixel s.frameMemory px py))) ∧
  ∀ (f : Frame) (k : Lane) (c r : Nat),
    let face := f.faces[k.settings.face]
    let w := k.cells.length * face.advance
    let cycle := w + k.settings.gap
    let paper := if k.settings.paperClear = true then none else some k.settings.paper
    (k.settings.mode ≠ .fixed → cycle = 0 → f.windowPixel k c r = paper) ∧
    ∀ position : Nat, (k.settings.mode = .fixed ∧ position = c + k.offset) ∨
        (k.settings.mode ≠ .fixed ∧ 0 < cycle ∧ position = (c + k.offset) % cycle) →
      (w ≤ position → f.windowPixel k c r = paper) ∧
      ∀ cell, k.cells[position / face.advance]? = some cell → position < w →
        let column := position % face.advance
        let blinkedOff := ∃ b : BlinkId, cell.blink.toNat = b.1 + 1 ∧ f.phases[b] = .off
        let bit := ∃ (n : SlotId) (row : Fin 32), cell.slot = some n ∧ row.1 + k.settings.verticalOffset = r ∧
          row.1 < face.height ∧ column < min face.width face.advance ∧
          (f.bitmaps[n][row]).getMsbD column = true
        let ink := cell.slot ≠ none ∧ ¬blinkedOff ∧ (cell.inverse = false ↔ bit)
        face.height ≤ 32 →
        (ink → f.windowPixel k c r =
          some (if cell.highlight = true then k.settings.altInk else k.settings.ink)) ∧
        (¬ink → f.windowPixel k c r = paper)

/-! ## Busy blocks -/

/-- An entry that reaches a busy Glyph Table, Lane Unit or Raster Engine joins the tail of its queue (R5, R32,
R107). The pixel transfer that ends an operation while claims wait clears its marks, answers it and takes the
oldest URGENT claim, or else the oldest claim, which then begins its own operation, or fails and is answered
(R108, R115). A define or an edit that ends while entries wait is answered, and the head of the queue is served
(R5, R32). An entry of no known operation is taken by the first row of its kind (the model's choice, log entry
8). It is the model's choice, too, that the Glyph Table and the Lane Unit take entries so, and transfers and reads go
on so, between a fatal fault and the halt's announcement (log entries 33 and 41). -/
def Obligations.BusyBlocksQueueTheirEntries : Prop :=
  (∀ (s : State) (r : RingId) (e : WorkEntry) (kind : Kind) (command : Instr),
    s.part ≠ .resetting → s.waitsAt r e → e.kind = some kind → takingCommand r e = some command →
    (kind ∈ [Kind.faceLoad, .faceDrop, .glyphPreload, .glyphDefine, .glyphRelease] → s.glyph.service ≠ none →
      exec command s = .next ((s.clearHandover r).withGlyph { s.glyph with
        entries := s.glyph.entries ++ [⟨r, e⟩] })) ∧
    (kind ∈ [Kind.laneSet, .laneText, .laneView, .laneMotion] → s.lane.service ≠ none →
      exec command s = .next ((s.clearHandover r).withLane { s.lane with
        entries := s.lane.entries ++ [⟨r, e⟩] })) ∧
    (kind ∈ [Kind.fill, .copy, .expand, .text] → s.part = .running → s.raster.service ≠ none →
      exec command s = .next ((s.clearHandover r).withRaster { s.raster with
        claims := s.raster.claims ++ [⟨r, (s.ring r).cls, e⟩] }))) ∧
  (∀ (before after : List Claim) (c : Claim),
    (c.cls = .urgent ∧ ∀ x ∈ before, x.cls = .normal) ∨
      (c.cls = .normal ∧ before = [] ∧ ∀ x ∈ after, x.cls = .normal) →
    Blocks.chosenClaim (before ++ c :: after) = some c) ∧
  (∀ (s : State) (c next : Claim) (d : Drawing) (before after : List Claim) (read : ReadEnd) (stored : Byte),
    s.part ≠ .resetting → s.raster.service = some c → s.raster.drawing = some d → s.raster.stamp = none →
    c.entry.kind = some .fill ∨ c.entry.kind = some .copy ∨ c.entry.kind = some .expand →
    s.raster.finishing = false → (s.ring c.ring).awaitsAnswer = true →
    d.transfer.kind = .destWrite stored → d.column + 1 = (s.blocks.work c).area.columns →
    d.row + 1 = (s.blocks.work c).area.rows →
    (d.transfer.space = .loc ∧ d.transfer.addr < 0x100000) ∨ (d.transfer.space = .host ∧ ∃ bytes, read = .ok bytes) →
    s.raster.claims = before ++ next :: after →
    (next.cls = .urgent ∧ ∀ x ∈ before, x.cls = .normal) ∨
      (next.cls = .normal ∧ before = [] ∧ ∀ x ∈ after, x.cls = .normal) →
    let a := c.entry.rasterArgs
    let b := next.entry.rasterArgs
    let k := s.blocks.work next
    let command := exec (.rasterTransferEnd read) s
    let idle : RasterEngine := { RasterEngine.idle with
      claims := before ++ after, lostReads := s.raster.lostReads }
    let ended (marks : Vector Surface 16) (engine : RasterEngine) :=
      (((s.withFrameMemory (d.transfer.stored s.frameMemory)).withSurfaces marks).withRaster engine).withTransit
        { s.transit with answers := update s.transit.answers c.ring (some .done) }
    let begun (engine : RasterEngine) := ∃ marks : Vector Surface 16, command = .next (ended marks engine) ∧
      ∀ n : SurfaceId, marks[n] = { s.surfaceAt n with
        mark := decide (b.dst = some n ∨ b.src = some n) ||
          ((s.surfaceAt n).mark && !decide (a.dst = some n ∨ a.src = some n)) }
    (∀ f, s.blocks.rasterFails b = none → next.entry.kind = some .text → b.face = some f →
      begun { idle with
        step := .readingList, service := some next,
        metrics := ⟨s.glyph.faces[f].width, s.glyph.faces[f].height, s.glyph.faces[f].advance⟩,
        codeRead := some ⟨b.listAddr.toNat, b.count * 2⟩ }) ∧
    (s.blocks.rasterFails b = none →
      next.entry.kind = some .fill ∨ next.entry.kind = some .copy ∨ next.entry.kind = some .expand →
      0 < k.area.columns → 0 < k.area.rows →
      begun { idle with
        step := .drawing, service := some next, drawing := some ⟨0, 0, 0, k.firstTransfer 0 0 0⟩ }) ∧
    (∀ status, s.blocks.rasterFails b = some status → before ++ after = [] →
      (s.ring next.ring).awaitsAnswer = true → ∃ marks : Vector Surface 16,
        command = .next ((ended marks idle).withTransit { s.transit with
          answers := update (update s.transit.answers c.ring (some .done)) next.ring (some (.failed status)) }) ∧
        ∀ n : SurfaceId, marks[n] = { s.surfaceAt n with
          mark := (s.surfaceAt n).mark && !decide (a.dst = some n ∨ a.src = some n) })) ∧
  (∀ (s : State) (v : GlyphService) (span : ReadSpan) (q : RingId) (e : WorkEntry) (rest : List RingEntry)
    (f : FaceId), s.part ≠ .resetting → s.glyph.service = some v → s.glyph.defineRead = some span →
    s.glyph.entries = ⟨q, e⟩ :: rest → (s.ring v.ring).awaitsAnswer = true → e.kind = some .glyphDefine →
    e.u8 0x04 = f.1 → s.glyph.faces[f].state = .loaded → (e.word 0x08).toNat % 2 = 0 →
    exec (.defineReadEnd .busError) s = .next ((s.withGlyph { s.glyph with
      staging := none, service := some ⟨q, e, (e.half 0x08).toNat⟩, entries := rest,
      defineRead := some ⟨(e.word 0x08).toNat, 2 * s.glyph.faces[f].height⟩ }).withTransit { s.transit with
        answers := update s.transit.answers v.ring (some (.failed .busError)),
        glyphAnswers := s.transit.glyphAnswers ++ [v.ring] })) ∧
  ∀ (s : State) (v : LaneService) (span : ReadSpan) (q : RingId) (e : WorkEntry) (rest : List RingEntry)
    (l : LaneId), s.part ≠ .resetting → s.lane.service = some v → v.read = some span → v.current = none →
    s.lane.staging = [] → s.lane.entries = ⟨q, e⟩ :: rest → (s.ring v.ring).awaitsAnswer = true →
    e.kind = some .laneText → e.operation = 0 → e.u8 0x04 = l.1 → (s.laneAt l).state = .set →
    s.glyph.faces[(s.laneAt l).settings.face].state = .loaded → (s.laneAt l).cursor < 128 →
    let n := e.u16 0x06
    let stored := min n (128 - (s.laneAt l).cursor)
    1 ≤ n ∧ n ≤ 128 → (e.word 0x08).toNat % 4 = 0 →
    exec (.cellListReadEnd false .busError) s = .next ((s.withLane { s.lane with
      staging := [], entries := rest,
      service := some { ring := q, lane := l, edit := .write, dropped := n - stored, todo := [],
                        undelivered := stored, current := none,
                        read := some ⟨(e.word 0x08).toNat, stored * 4⟩ } }).withTransit { s.transit with
        answers := update s.transit.answers v.ring (some (.failed .busError)) })

end Statements
end

