-- ==== Sys2Proof/Laws/State.lean ====
section
/-! SUPPORT. What each replacement of a block leaves of every field, and what each change of a record leaves of
every record. -/

namespace Sys2Proof.Machine

variable (s : State)

/-! ### `State.withHost` -/

@[simp] theorem State.withHost_host (v : HostPort) : (s.withHost v).host = v := rfl
@[simp] theorem State.withHost_intake (v : HostPort) : (s.withHost v).intake = s.intake := rfl
@[simp] theorem State.withHost_report (v : HostPort) : (s.withHost v).report = s.report := rfl
@[simp] theorem State.withHost_sync (v : HostPort) : (s.withHost v).sync = s.sync := rfl
@[simp] theorem State.withHost_glyph (v : HostPort) : (s.withHost v).glyph = s.glyph := rfl
@[simp] theorem State.withHost_surfaces (v : HostPort) : (s.withHost v).surfaces = s.surfaces := rfl
@[simp] theorem State.withHost_raster (v : HostPort) : (s.withHost v).raster = s.raster := rfl
@[simp] theorem State.withHost_lane (v : HostPort) : (s.withHost v).lane = s.lane := rfl
@[simp] theorem State.withHost_presentation (v : HostPort) : (s.withHost v).presentation = s.presentation := rfl
@[simp] theorem State.withHost_frame (v : HostPort) : (s.withHost v).frame = s.frame := rfl
@[simp] theorem State.withHost_frameMemory (v : HostPort) : (s.withHost v).frameMemory = s.frameMemory := rfl
@[simp] theorem State.withHost_transit (v : HostPort) : (s.withHost v).transit = s.transit := rfl
@[simp] theorem State.withHost_pending (v : HostPort) : (s.withHost v).pending = s.pending := rfl
@[simp] theorem State.withHost_self : s.withHost s.host = s := rfl
@[simp] theorem State.withHost_withHost (v w : HostPort) : (s.withHost v).withHost w = s.withHost w := rfl

/-! ### `State.withIntake` -/

@[simp] theorem State.withIntake_host (v : IntakeUnit) : (s.withIntake v).host = s.host := rfl
@[simp] theorem State.withIntake_intake (v : IntakeUnit) : (s.withIntake v).intake = v := rfl
@[simp] theorem State.withIntake_report (v : IntakeUnit) : (s.withIntake v).report = s.report := rfl
@[simp] theorem State.withIntake_sync (v : IntakeUnit) : (s.withIntake v).sync = s.sync := rfl
@[simp] theorem State.withIntake_glyph (v : IntakeUnit) : (s.withIntake v).glyph = s.glyph := rfl
@[simp] theorem State.withIntake_surfaces (v : IntakeUnit) : (s.withIntake v).surfaces = s.surfaces := rfl
@[simp] theorem State.withIntake_raster (v : IntakeUnit) : (s.withIntake v).raster = s.raster := rfl
@[simp] theorem State.withIntake_lane (v : IntakeUnit) : (s.withIntake v).lane = s.lane := rfl
@[simp] theorem State.withIntake_presentation (v : IntakeUnit) : (s.withIntake v).presentation = s.presentation := rfl
@[simp] theorem State.withIntake_frame (v : IntakeUnit) : (s.withIntake v).frame = s.frame := rfl
@[simp] theorem State.withIntake_frameMemory (v : IntakeUnit) : (s.withIntake v).frameMemory = s.frameMemory := rfl
@[simp] theorem State.withIntake_transit (v : IntakeUnit) : (s.withIntake v).transit = s.transit := rfl
@[simp] theorem State.withIntake_pending (v : IntakeUnit) : (s.withIntake v).pending = s.pending := rfl
@[simp] theorem State.withIntake_self : s.withIntake s.intake = s := rfl
@[simp] theorem State.withIntake_withIntake (v w : IntakeUnit) : (s.withIntake v).withIntake w = s.withIntake w := rfl

/-! ### `State.withReport` -/

@[simp] theorem State.withReport_host (v : ReportUnit) : (s.withReport v).host = s.host := rfl
@[simp] theorem State.withReport_intake (v : ReportUnit) : (s.withReport v).intake = s.intake := rfl
@[simp] theorem State.withReport_report (v : ReportUnit) : (s.withReport v).report = v := rfl
@[simp] theorem State.withReport_sync (v : ReportUnit) : (s.withReport v).sync = s.sync := rfl
@[simp] theorem State.withReport_glyph (v : ReportUnit) : (s.withReport v).glyph = s.glyph := rfl
@[simp] theorem State.withReport_surfaces (v : ReportUnit) : (s.withReport v).surfaces = s.surfaces := rfl
@[simp] theorem State.withReport_raster (v : ReportUnit) : (s.withReport v).raster = s.raster := rfl
@[simp] theorem State.withReport_lane (v : ReportUnit) : (s.withReport v).lane = s.lane := rfl
@[simp] theorem State.withReport_presentation (v : ReportUnit) : (s.withReport v).presentation = s.presentation := rfl
@[simp] theorem State.withReport_frame (v : ReportUnit) : (s.withReport v).frame = s.frame := rfl
@[simp] theorem State.withReport_frameMemory (v : ReportUnit) : (s.withReport v).frameMemory = s.frameMemory := rfl
@[simp] theorem State.withReport_transit (v : ReportUnit) : (s.withReport v).transit = s.transit := rfl
@[simp] theorem State.withReport_pending (v : ReportUnit) : (s.withReport v).pending = s.pending := rfl
@[simp] theorem State.withReport_self : s.withReport s.report = s := rfl
@[simp] theorem State.withReport_withReport (v w : ReportUnit) : (s.withReport v).withReport w = s.withReport w := rfl

/-! ### `State.withSync` -/

@[simp] theorem State.withSync_host (v : SyncTable) : (s.withSync v).host = s.host := rfl
@[simp] theorem State.withSync_intake (v : SyncTable) : (s.withSync v).intake = s.intake := rfl
@[simp] theorem State.withSync_report (v : SyncTable) : (s.withSync v).report = s.report := rfl
@[simp] theorem State.withSync_sync (v : SyncTable) : (s.withSync v).sync = v := rfl
@[simp] theorem State.withSync_glyph (v : SyncTable) : (s.withSync v).glyph = s.glyph := rfl
@[simp] theorem State.withSync_surfaces (v : SyncTable) : (s.withSync v).surfaces = s.surfaces := rfl
@[simp] theorem State.withSync_raster (v : SyncTable) : (s.withSync v).raster = s.raster := rfl
@[simp] theorem State.withSync_lane (v : SyncTable) : (s.withSync v).lane = s.lane := rfl
@[simp] theorem State.withSync_presentation (v : SyncTable) : (s.withSync v).presentation = s.presentation := rfl
@[simp] theorem State.withSync_frame (v : SyncTable) : (s.withSync v).frame = s.frame := rfl
@[simp] theorem State.withSync_frameMemory (v : SyncTable) : (s.withSync v).frameMemory = s.frameMemory := rfl
@[simp] theorem State.withSync_transit (v : SyncTable) : (s.withSync v).transit = s.transit := rfl
@[simp] theorem State.withSync_pending (v : SyncTable) : (s.withSync v).pending = s.pending := rfl
@[simp] theorem State.withSync_self : s.withSync s.sync = s := rfl
@[simp] theorem State.withSync_withSync (v w : SyncTable) : (s.withSync v).withSync w = s.withSync w := rfl

/-! ### `State.withGlyph` -/

@[simp] theorem State.withGlyph_host (v : GlyphTable) : (s.withGlyph v).host = s.host := rfl
@[simp] theorem State.withGlyph_intake (v : GlyphTable) : (s.withGlyph v).intake = s.intake := rfl
@[simp] theorem State.withGlyph_report (v : GlyphTable) : (s.withGlyph v).report = s.report := rfl
@[simp] theorem State.withGlyph_sync (v : GlyphTable) : (s.withGlyph v).sync = s.sync := rfl
@[simp] theorem State.withGlyph_glyph (v : GlyphTable) : (s.withGlyph v).glyph = v := rfl
@[simp] theorem State.withGlyph_surfaces (v : GlyphTable) : (s.withGlyph v).surfaces = s.surfaces := rfl
@[simp] theorem State.withGlyph_raster (v : GlyphTable) : (s.withGlyph v).raster = s.raster := rfl
@[simp] theorem State.withGlyph_lane (v : GlyphTable) : (s.withGlyph v).lane = s.lane := rfl
@[simp] theorem State.withGlyph_presentation (v : GlyphTable) : (s.withGlyph v).presentation = s.presentation := rfl
@[simp] theorem State.withGlyph_frame (v : GlyphTable) : (s.withGlyph v).frame = s.frame := rfl
@[simp] theorem State.withGlyph_frameMemory (v : GlyphTable) : (s.withGlyph v).frameMemory = s.frameMemory := rfl
@[simp] theorem State.withGlyph_transit (v : GlyphTable) : (s.withGlyph v).transit = s.transit := rfl
@[simp] theorem State.withGlyph_pending (v : GlyphTable) : (s.withGlyph v).pending = s.pending := rfl
@[simp] theorem State.withGlyph_self : s.withGlyph s.glyph = s := rfl
@[simp] theorem State.withGlyph_withGlyph (v w : GlyphTable) : (s.withGlyph v).withGlyph w = s.withGlyph w := rfl

/-! ### `State.withSurfaces` -/

@[simp] theorem State.withSurfaces_host (v : Vector Surface 16) : (s.withSurfaces v).host = s.host := rfl
@[simp] theorem State.withSurfaces_intake (v : Vector Surface 16) : (s.withSurfaces v).intake = s.intake := rfl
@[simp] theorem State.withSurfaces_report (v : Vector Surface 16) : (s.withSurfaces v).report = s.report := rfl
@[simp] theorem State.withSurfaces_sync (v : Vector Surface 16) : (s.withSurfaces v).sync = s.sync := rfl
@[simp] theorem State.withSurfaces_glyph (v : Vector Surface 16) : (s.withSurfaces v).glyph = s.glyph := rfl
@[simp] theorem State.withSurfaces_surfaces (v : Vector Surface 16) : (s.withSurfaces v).surfaces = v := rfl
@[simp] theorem State.withSurfaces_raster (v : Vector Surface 16) : (s.withSurfaces v).raster = s.raster := rfl
@[simp] theorem State.withSurfaces_lane (v : Vector Surface 16) : (s.withSurfaces v).lane = s.lane := rfl
@[simp] theorem State.withSurfaces_presentation (v : Vector Surface 16) : (s.withSurfaces v).presentation = s.presentation := rfl
@[simp] theorem State.withSurfaces_frame (v : Vector Surface 16) : (s.withSurfaces v).frame = s.frame := rfl
@[simp] theorem State.withSurfaces_frameMemory (v : Vector Surface 16) : (s.withSurfaces v).frameMemory = s.frameMemory := rfl
@[simp] theorem State.withSurfaces_transit (v : Vector Surface 16) : (s.withSurfaces v).transit = s.transit := rfl
@[simp] theorem State.withSurfaces_pending (v : Vector Surface 16) : (s.withSurfaces v).pending = s.pending := rfl
@[simp] theorem State.withSurfaces_self : s.withSurfaces s.surfaces = s := rfl
@[simp] theorem State.withSurfaces_withSurfaces (v w : Vector Surface 16) : (s.withSurfaces v).withSurfaces w = s.withSurfaces w := rfl

/-! ### `State.withRaster` -/

@[simp] theorem State.withRaster_host (v : RasterEngine) : (s.withRaster v).host = s.host := rfl
@[simp] theorem State.withRaster_intake (v : RasterEngine) : (s.withRaster v).intake = s.intake := rfl
@[simp] theorem State.withRaster_report (v : RasterEngine) : (s.withRaster v).report = s.report := rfl
@[simp] theorem State.withRaster_sync (v : RasterEngine) : (s.withRaster v).sync = s.sync := rfl
@[simp] theorem State.withRaster_glyph (v : RasterEngine) : (s.withRaster v).glyph = s.glyph := rfl
@[simp] theorem State.withRaster_surfaces (v : RasterEngine) : (s.withRaster v).surfaces = s.surfaces := rfl
@[simp] theorem State.withRaster_raster (v : RasterEngine) : (s.withRaster v).raster = v := rfl
@[simp] theorem State.withRaster_lane (v : RasterEngine) : (s.withRaster v).lane = s.lane := rfl
@[simp] theorem State.withRaster_presentation (v : RasterEngine) : (s.withRaster v).presentation = s.presentation := rfl
@[simp] theorem State.withRaster_frame (v : RasterEngine) : (s.withRaster v).frame = s.frame := rfl
@[simp] theorem State.withRaster_frameMemory (v : RasterEngine) : (s.withRaster v).frameMemory = s.frameMemory := rfl
@[simp] theorem State.withRaster_transit (v : RasterEngine) : (s.withRaster v).transit = s.transit := rfl
@[simp] theorem State.withRaster_pending (v : RasterEngine) : (s.withRaster v).pending = s.pending := rfl
@[simp] theorem State.withRaster_self : s.withRaster s.raster = s := rfl
@[simp] theorem State.withRaster_withRaster (v w : RasterEngine) : (s.withRaster v).withRaster w = s.withRaster w := rfl

/-! ### `State.withLane` -/

@[simp] theorem State.withLane_host (v : LaneUnit) : (s.withLane v).host = s.host := rfl
@[simp] theorem State.withLane_intake (v : LaneUnit) : (s.withLane v).intake = s.intake := rfl
@[simp] theorem State.withLane_report (v : LaneUnit) : (s.withLane v).report = s.report := rfl
@[simp] theorem State.withLane_sync (v : LaneUnit) : (s.withLane v).sync = s.sync := rfl
@[simp] theorem State.withLane_glyph (v : LaneUnit) : (s.withLane v).glyph = s.glyph := rfl
@[simp] theorem State.withLane_surfaces (v : LaneUnit) : (s.withLane v).surfaces = s.surfaces := rfl
@[simp] theorem State.withLane_raster (v : LaneUnit) : (s.withLane v).raster = s.raster := rfl
@[simp] theorem State.withLane_lane (v : LaneUnit) : (s.withLane v).lane = v := rfl
@[simp] theorem State.withLane_presentation (v : LaneUnit) : (s.withLane v).presentation = s.presentation := rfl
@[simp] theorem State.withLane_frame (v : LaneUnit) : (s.withLane v).frame = s.frame := rfl
@[simp] theorem State.withLane_frameMemory (v : LaneUnit) : (s.withLane v).frameMemory = s.frameMemory := rfl
@[simp] theorem State.withLane_transit (v : LaneUnit) : (s.withLane v).transit = s.transit := rfl
@[simp] theorem State.withLane_pending (v : LaneUnit) : (s.withLane v).pending = s.pending := rfl
@[simp] theorem State.withLane_self : s.withLane s.lane = s := rfl
@[simp] theorem State.withLane_withLane (v w : LaneUnit) : (s.withLane v).withLane w = s.withLane w := rfl

/-! ### `State.withPresentation` -/

@[simp] theorem State.withPresentation_host (v : PresentationUnit) : (s.withPresentation v).host = s.host := rfl
@[simp] theorem State.withPresentation_intake (v : PresentationUnit) : (s.withPresentation v).intake = s.intake := rfl
@[simp] theorem State.withPresentation_report (v : PresentationUnit) : (s.withPresentation v).report = s.report := rfl
@[simp] theorem State.withPresentation_sync (v : PresentationUnit) : (s.withPresentation v).sync = s.sync := rfl
@[simp] theorem State.withPresentation_glyph (v : PresentationUnit) : (s.withPresentation v).glyph = s.glyph := rfl
@[simp] theorem State.withPresentation_surfaces (v : PresentationUnit) : (s.withPresentation v).surfaces = s.surfaces := rfl
@[simp] theorem State.withPresentation_raster (v : PresentationUnit) : (s.withPresentation v).raster = s.raster := rfl
@[simp] theorem State.withPresentation_lane (v : PresentationUnit) : (s.withPresentation v).lane = s.lane := rfl
@[simp] theorem State.withPresentation_presentation (v : PresentationUnit) : (s.withPresentation v).presentation = v := rfl
@[simp] theorem State.withPresentation_frame (v : PresentationUnit) : (s.withPresentation v).frame = s.frame := rfl
@[simp] theorem State.withPresentation_frameMemory (v : PresentationUnit) : (s.withPresentation v).frameMemory = s.frameMemory := rfl
@[simp] theorem State.withPresentation_transit (v : PresentationUnit) : (s.withPresentation v).transit = s.transit := rfl
@[simp] theorem State.withPresentation_pending (v : PresentationUnit) : (s.withPresentation v).pending = s.pending := rfl
@[simp] theorem State.withPresentation_self : s.withPresentation s.presentation = s := rfl
@[simp] theorem State.withPresentation_withPresentation (v w : PresentationUnit) : (s.withPresentation v).withPresentation w = s.withPresentation w := rfl

/-! ### `State.withFrame` -/

@[simp] theorem State.withFrame_host (v : Option Frame) : (s.withFrame v).host = s.host := rfl
@[simp] theorem State.withFrame_intake (v : Option Frame) : (s.withFrame v).intake = s.intake := rfl
@[simp] theorem State.withFrame_report (v : Option Frame) : (s.withFrame v).report = s.report := rfl
@[simp] theorem State.withFrame_sync (v : Option Frame) : (s.withFrame v).sync = s.sync := rfl
@[simp] theorem State.withFrame_glyph (v : Option Frame) : (s.withFrame v).glyph = s.glyph := rfl
@[simp] theorem State.withFrame_surfaces (v : Option Frame) : (s.withFrame v).surfaces = s.surfaces := rfl
@[simp] theorem State.withFrame_raster (v : Option Frame) : (s.withFrame v).raster = s.raster := rfl
@[simp] theorem State.withFrame_lane (v : Option Frame) : (s.withFrame v).lane = s.lane := rfl
@[simp] theorem State.withFrame_presentation (v : Option Frame) : (s.withFrame v).presentation = s.presentation := rfl
@[simp] theorem State.withFrame_frame (v : Option Frame) : (s.withFrame v).frame = v := rfl
@[simp] theorem State.withFrame_frameMemory (v : Option Frame) : (s.withFrame v).frameMemory = s.frameMemory := rfl
@[simp] theorem State.withFrame_transit (v : Option Frame) : (s.withFrame v).transit = s.transit := rfl
@[simp] theorem State.withFrame_pending (v : Option Frame) : (s.withFrame v).pending = s.pending := rfl
@[simp] theorem State.withFrame_self : s.withFrame s.frame = s := rfl
@[simp] theorem State.withFrame_withFrame (v w : Option Frame) : (s.withFrame v).withFrame w = s.withFrame w := rfl

/-! ### `State.withFrameMemory` -/

@[simp] theorem State.withFrameMemory_host (v : Memory) : (s.withFrameMemory v).host = s.host := rfl
@[simp] theorem State.withFrameMemory_intake (v : Memory) : (s.withFrameMemory v).intake = s.intake := rfl
@[simp] theorem State.withFrameMemory_report (v : Memory) : (s.withFrameMemory v).report = s.report := rfl
@[simp] theorem State.withFrameMemory_sync (v : Memory) : (s.withFrameMemory v).sync = s.sync := rfl
@[simp] theorem State.withFrameMemory_glyph (v : Memory) : (s.withFrameMemory v).glyph = s.glyph := rfl
@[simp] theorem State.withFrameMemory_surfaces (v : Memory) : (s.withFrameMemory v).surfaces = s.surfaces := rfl
@[simp] theorem State.withFrameMemory_raster (v : Memory) : (s.withFrameMemory v).raster = s.raster := rfl
@[simp] theorem State.withFrameMemory_lane (v : Memory) : (s.withFrameMemory v).lane = s.lane := rfl
@[simp] theorem State.withFrameMemory_presentation (v : Memory) : (s.withFrameMemory v).presentation = s.presentation := rfl
@[simp] theorem State.withFrameMemory_frame (v : Memory) : (s.withFrameMemory v).frame = s.frame := rfl
@[simp] theorem State.withFrameMemory_frameMemory (v : Memory) : (s.withFrameMemory v).frameMemory = v := rfl
@[simp] theorem State.withFrameMemory_transit (v : Memory) : (s.withFrameMemory v).transit = s.transit := rfl
@[simp] theorem State.withFrameMemory_pending (v : Memory) : (s.withFrameMemory v).pending = s.pending := rfl
@[simp] theorem State.withFrameMemory_self : s.withFrameMemory s.frameMemory = s := rfl
@[simp] theorem State.withFrameMemory_withFrameMemory (v w : Memory) : (s.withFrameMemory v).withFrameMemory w = s.withFrameMemory w := rfl

/-! ### `State.withTransit` -/

@[simp] theorem State.withTransit_host (v : Transit) : (s.withTransit v).host = s.host := rfl
@[simp] theorem State.withTransit_intake (v : Transit) : (s.withTransit v).intake = s.intake := rfl
@[simp] theorem State.withTransit_report (v : Transit) : (s.withTransit v).report = s.report := rfl
@[simp] theorem State.withTransit_sync (v : Transit) : (s.withTransit v).sync = s.sync := rfl
@[simp] theorem State.withTransit_glyph (v : Transit) : (s.withTransit v).glyph = s.glyph := rfl
@[simp] theorem State.withTransit_surfaces (v : Transit) : (s.withTransit v).surfaces = s.surfaces := rfl
@[simp] theorem State.withTransit_raster (v : Transit) : (s.withTransit v).raster = s.raster := rfl
@[simp] theorem State.withTransit_lane (v : Transit) : (s.withTransit v).lane = s.lane := rfl
@[simp] theorem State.withTransit_presentation (v : Transit) : (s.withTransit v).presentation = s.presentation := rfl
@[simp] theorem State.withTransit_frame (v : Transit) : (s.withTransit v).frame = s.frame := rfl
@[simp] theorem State.withTransit_frameMemory (v : Transit) : (s.withTransit v).frameMemory = s.frameMemory := rfl
@[simp] theorem State.withTransit_transit (v : Transit) : (s.withTransit v).transit = v := rfl
@[simp] theorem State.withTransit_pending (v : Transit) : (s.withTransit v).pending = s.pending := rfl
@[simp] theorem State.withTransit_self : s.withTransit s.transit = s := rfl
@[simp] theorem State.withTransit_withTransit (v w : Transit) : (s.withTransit v).withTransit w = s.withTransit w := rfl

/-! ### `State.withPending` -/

@[simp] theorem State.withPending_host (v : List Instr) : (s.withPending v).host = s.host := rfl
@[simp] theorem State.withPending_intake (v : List Instr) : (s.withPending v).intake = s.intake := rfl
@[simp] theorem State.withPending_report (v : List Instr) : (s.withPending v).report = s.report := rfl
@[simp] theorem State.withPending_sync (v : List Instr) : (s.withPending v).sync = s.sync := rfl
@[simp] theorem State.withPending_glyph (v : List Instr) : (s.withPending v).glyph = s.glyph := rfl
@[simp] theorem State.withPending_surfaces (v : List Instr) : (s.withPending v).surfaces = s.surfaces := rfl
@[simp] theorem State.withPending_raster (v : List Instr) : (s.withPending v).raster = s.raster := rfl
@[simp] theorem State.withPending_lane (v : List Instr) : (s.withPending v).lane = s.lane := rfl
@[simp] theorem State.withPending_presentation (v : List Instr) : (s.withPending v).presentation = s.presentation := rfl
@[simp] theorem State.withPending_frame (v : List Instr) : (s.withPending v).frame = s.frame := rfl
@[simp] theorem State.withPending_frameMemory (v : List Instr) : (s.withPending v).frameMemory = s.frameMemory := rfl
@[simp] theorem State.withPending_transit (v : List Instr) : (s.withPending v).transit = s.transit := rfl
@[simp] theorem State.withPending_pending (v : List Instr) : (s.withPending v).pending = v := rfl
@[simp] theorem State.withPending_self : s.withPending s.pending = s := rfl
@[simp] theorem State.withPending_withPending (v w : List Instr) : (s.withPending v).withPending w = s.withPending w := rfl

@[simp] theorem State.withHost_eta : s.withHost ⟨s.host.part, s.host.fault, s.host.faultDetail, s.host.cause,
    s.host.setupAddr, s.host.origin, s.host.evt, s.host.evten, s.host.fcnt, s.host.setupRead,
    s.host.setupData⟩ = s := rfl
@[simp] theorem State.withIntake_eta : s.withIntake ⟨s.intake.rings, s.intake.fetch, s.intake.lastServed⟩ = s
    := rfl
@[simp] theorem State.withReport_eta : s.withReport ⟨s.report.base, s.report.size, s.report.writeIndex,
    s.report.releaseIndex, s.report.lap, s.report.buffer, s.report.write, s.report.ringClass, s.report.turn⟩ =
    s := rfl
@[simp] theorem State.withSync_eta : s.withSync ⟨s.sync.counters, s.sync.waiters, s.sync.frameWaits⟩ = s :=
    rfl
@[simp] theorem State.withGlyph_eta : s.withGlyph ⟨s.glyph.faces, s.glyph.slots, s.glyph.reclaim,
    s.glyph.queue, s.glyph.fetch, s.glyph.staging, s.glyph.defineRead, s.glyph.lostReads, s.glyph.service,
    s.glyph.entries⟩ = s := rfl
@[simp] theorem State.withRaster_eta : s.withRaster ⟨s.raster.step, s.raster.service, s.raster.claims,
    s.raster.codes, s.raster.codeIndex, s.raster.stamp, s.raster.missing, s.raster.metrics, s.raster.drawing,
    s.raster.codeRead, s.raster.lostReads, s.raster.finishing⟩ = s := rfl
@[simp] theorem State.withLane_eta : s.withLane ⟨s.lane.lanes, s.lane.staging, s.lane.service, s.lane.entries,
    s.lane.lostReads⟩ = s := rfl
@[simp] theorem State.withPresentation_eta : s.withPresentation ⟨s.presentation.state,
    s.presentation.panelWidth, s.presentation.panelHeight, s.presentation.framePeriod,
    s.presentation.frameCounter, s.presentation.front, s.presentation.pending, s.presentation.queue,
    s.presentation.blink⟩ = s := rfl
@[simp] theorem State.withTransit_eta : s.withTransit ⟨s.transit.handover, s.transit.answers,
    s.transit.glyphAnswers, s.transit.accepted, s.transit.syncCancel, s.transit.presentCancel,
    s.transit.laneFrames, s.transit.syncFrames, s.transit.hostFrames, s.transit.laneAdditions,
    s.transit.faults, s.transit.halts⟩ = s := rfl

/-! ### The order of replacements: simp brings them into the order of the fields -/


@[simp] theorem State.withIntake_withHost (v : IntakeUnit) (w : HostPort) :
    (s.withIntake v).withHost w = (s.withHost w).withIntake v := rfl

@[simp] theorem State.withReport_withHost (v : ReportUnit) (w : HostPort) :
    (s.withReport v).withHost w = (s.withHost w).withReport v := rfl
@[simp] theorem State.withReport_withIntake (v : ReportUnit) (w : IntakeUnit) :
    (s.withReport v).withIntake w = (s.withIntake w).withReport v := rfl

@[simp] theorem State.withSync_withHost (v : SyncTable) (w : HostPort) :
    (s.withSync v).withHost w = (s.withHost w).withSync v := rfl
@[simp] theorem State.withSync_withIntake (v : SyncTable) (w : IntakeUnit) :
    (s.withSync v).withIntake w = (s.withIntake w).withSync v := rfl
@[simp] theorem State.withSync_withReport (v : SyncTable) (w : ReportUnit) :
    (s.withSync v).withReport w = (s.withReport w).withSync v := rfl

@[simp] theorem State.withGlyph_withHost (v : GlyphTable) (w : HostPort) :
    (s.withGlyph v).withHost w = (s.withHost w).withGlyph v := rfl
@[simp] theorem State.withGlyph_withIntake (v : GlyphTable) (w : IntakeUnit) :
    (s.withGlyph v).withIntake w = (s.withIntake w).withGlyph v := rfl
@[simp] theorem State.withGlyph_withReport (v : GlyphTable) (w : ReportUnit) :
    (s.withGlyph v).withReport w = (s.withReport w).withGlyph v := rfl
@[simp] theorem State.withGlyph_withSync (v : GlyphTable) (w : SyncTable) :
    (s.withGlyph v).withSync w = (s.withSync w).withGlyph v := rfl

@[simp] theorem State.withSurfaces_withHost (v : Vector Surface 16) (w : HostPort) :
    (s.withSurfaces v).withHost w = (s.withHost w).withSurfaces v := rfl
@[simp] theorem State.withSurfaces_withIntake (v : Vector Surface 16) (w : IntakeUnit) :
    (s.withSurfaces v).withIntake w = (s.withIntake w).withSurfaces v := rfl
@[simp] theorem State.withSurfaces_withReport (v : Vector Surface 16) (w : ReportUnit) :
    (s.withSurfaces v).withReport w = (s.withReport w).withSurfaces v := rfl
@[simp] theorem State.withSurfaces_withSync (v : Vector Surface 16) (w : SyncTable) :
    (s.withSurfaces v).withSync w = (s.withSync w).withSurfaces v := rfl
@[simp] theorem State.withSurfaces_withGlyph (v : Vector Surface 16) (w : GlyphTable) :
    (s.withSurfaces v).withGlyph w = (s.withGlyph w).withSurfaces v := rfl

@[simp] theorem State.withRaster_withHost (v : RasterEngine) (w : HostPort) :
    (s.withRaster v).withHost w = (s.withHost w).withRaster v := rfl
@[simp] theorem State.withRaster_withIntake (v : RasterEngine) (w : IntakeUnit) :
    (s.withRaster v).withIntake w = (s.withIntake w).withRaster v := rfl
@[simp] theorem State.withRaster_withReport (v : RasterEngine) (w : ReportUnit) :
    (s.withRaster v).withReport w = (s.withReport w).withRaster v := rfl
@[simp] theorem State.withRaster_withSync (v : RasterEngine) (w : SyncTable) :
    (s.withRaster v).withSync w = (s.withSync w).withRaster v := rfl
@[simp] theorem State.withRaster_withGlyph (v : RasterEngine) (w : GlyphTable) :
    (s.withRaster v).withGlyph w = (s.withGlyph w).withRaster v := rfl
@[simp] theorem State.withRaster_withSurfaces (v : RasterEngine) (w : Vector Surface 16) :
    (s.withRaster v).withSurfaces w = (s.withSurfaces w).withRaster v := rfl

@[simp] theorem State.withLane_withHost (v : LaneUnit) (w : HostPort) :
    (s.withLane v).withHost w = (s.withHost w).withLane v := rfl
@[simp] theorem State.withLane_withIntake (v : LaneUnit) (w : IntakeUnit) :
    (s.withLane v).withIntake w = (s.withIntake w).withLane v := rfl
@[simp] theorem State.withLane_withReport (v : LaneUnit) (w : ReportUnit) :
    (s.withLane v).withReport w = (s.withReport w).withLane v := rfl
@[simp] theorem State.withLane_withSync (v : LaneUnit) (w : SyncTable) :
    (s.withLane v).withSync w = (s.withSync w).withLane v := rfl
@[simp] theorem State.withLane_withGlyph (v : LaneUnit) (w : GlyphTable) :
    (s.withLane v).withGlyph w = (s.withGlyph w).withLane v := rfl
@[simp] theorem State.withLane_withSurfaces (v : LaneUnit) (w : Vector Surface 16) :
    (s.withLane v).withSurfaces w = (s.withSurfaces w).withLane v := rfl
@[simp] theorem State.withLane_withRaster (v : LaneUnit) (w : RasterEngine) :
    (s.withLane v).withRaster w = (s.withRaster w).withLane v := rfl

@[simp] theorem State.withPresentation_withHost (v : PresentationUnit) (w : HostPort) :
    (s.withPresentation v).withHost w = (s.withHost w).withPresentation v := rfl
@[simp] theorem State.withPresentation_withIntake (v : PresentationUnit) (w : IntakeUnit) :
    (s.withPresentation v).withIntake w = (s.withIntake w).withPresentation v := rfl
@[simp] theorem State.withPresentation_withReport (v : PresentationUnit) (w : ReportUnit) :
    (s.withPresentation v).withReport w = (s.withReport w).withPresentation v := rfl
@[simp] theorem State.withPresentation_withSync (v : PresentationUnit) (w : SyncTable) :
    (s.withPresentation v).withSync w = (s.withSync w).withPresentation v := rfl
@[simp] theorem State.withPresentation_withGlyph (v : PresentationUnit) (w : GlyphTable) :
    (s.withPresentation v).withGlyph w = (s.withGlyph w).withPresentation v := rfl
@[simp] theorem State.withPresentation_withSurfaces (v : PresentationUnit) (w : Vector Surface 16) :
    (s.withPresentation v).withSurfaces w = (s.withSurfaces w).withPresentation v := rfl
@[simp] theorem State.withPresentation_withRaster (v : PresentationUnit) (w : RasterEngine) :
    (s.withPresentation v).withRaster w = (s.withRaster w).withPresentation v := rfl
@[simp] theorem State.withPresentation_withLane (v : PresentationUnit) (w : LaneUnit) :
    (s.withPresentation v).withLane w = (s.withLane w).withPresentation v := rfl

@[simp] theorem State.withFrame_withHost (v : Option Frame) (w : HostPort) :
    (s.withFrame v).withHost w = (s.withHost w).withFrame v := rfl
@[simp] theorem State.withFrame_withIntake (v : Option Frame) (w : IntakeUnit) :
    (s.withFrame v).withIntake w = (s.withIntake w).withFrame v := rfl
@[simp] theorem State.withFrame_withReport (v : Option Frame) (w : ReportUnit) :
    (s.withFrame v).withReport w = (s.withReport w).withFrame v := rfl
@[simp] theorem State.withFrame_withSync (v : Option Frame) (w : SyncTable) :
    (s.withFrame v).withSync w = (s.withSync w).withFrame v := rfl
@[simp] theorem State.withFrame_withGlyph (v : Option Frame) (w : GlyphTable) :
    (s.withFrame v).withGlyph w = (s.withGlyph w).withFrame v := rfl
@[simp] theorem State.withFrame_withSurfaces (v : Option Frame) (w : Vector Surface 16) :
    (s.withFrame v).withSurfaces w = (s.withSurfaces w).withFrame v := rfl
@[simp] theorem State.withFrame_withRaster (v : Option Frame) (w : RasterEngine) :
    (s.withFrame v).withRaster w = (s.withRaster w).withFrame v := rfl
@[simp] theorem State.withFrame_withLane (v : Option Frame) (w : LaneUnit) :
    (s.withFrame v).withLane w = (s.withLane w).withFrame v := rfl
@[simp] theorem State.withFrame_withPresentation (v : Option Frame) (w : PresentationUnit) :
    (s.withFrame v).withPresentation w = (s.withPresentation w).withFrame v := rfl

@[simp] theorem State.withFrameMemory_withHost (v : Memory) (w : HostPort) :
    (s.withFrameMemory v).withHost w = (s.withHost w).withFrameMemory v := rfl
@[simp] theorem State.withFrameMemory_withIntake (v : Memory) (w : IntakeUnit) :
    (s.withFrameMemory v).withIntake w = (s.withIntake w).withFrameMemory v := rfl
@[simp] theorem State.withFrameMemory_withReport (v : Memory) (w : ReportUnit) :
    (s.withFrameMemory v).withReport w = (s.withReport w).withFrameMemory v := rfl
@[simp] theorem State.withFrameMemory_withSync (v : Memory) (w : SyncTable) :
    (s.withFrameMemory v).withSync w = (s.withSync w).withFrameMemory v := rfl
@[simp] theorem State.withFrameMemory_withGlyph (v : Memory) (w : GlyphTable) :
    (s.withFrameMemory v).withGlyph w = (s.withGlyph w).withFrameMemory v := rfl
@[simp] theorem State.withFrameMemory_withSurfaces (v : Memory) (w : Vector Surface 16) :
    (s.withFrameMemory v).withSurfaces w = (s.withSurfaces w).withFrameMemory v := rfl
@[simp] theorem State.withFrameMemory_withRaster (v : Memory) (w : RasterEngine) :
    (s.withFrameMemory v).withRaster w = (s.withRaster w).withFrameMemory v := rfl
@[simp] theorem State.withFrameMemory_withLane (v : Memory) (w : LaneUnit) :
    (s.withFrameMemory v).withLane w = (s.withLane w).withFrameMemory v := rfl
@[simp] theorem State.withFrameMemory_withPresentation (v : Memory) (w : PresentationUnit) :
    (s.withFrameMemory v).withPresentation w = (s.withPresentation w).withFrameMemory v := rfl
@[simp] theorem State.withFrameMemory_withFrame (v : Memory) (w : Option Frame) :
    (s.withFrameMemory v).withFrame w = (s.withFrame w).withFrameMemory v := rfl

@[simp] theorem State.withTransit_withHost (v : Transit) (w : HostPort) :
    (s.withTransit v).withHost w = (s.withHost w).withTransit v := rfl
@[simp] theorem State.withTransit_withIntake (v : Transit) (w : IntakeUnit) :
    (s.withTransit v).withIntake w = (s.withIntake w).withTransit v := rfl
@[simp] theorem State.withTransit_withReport (v : Transit) (w : ReportUnit) :
    (s.withTransit v).withReport w = (s.withReport w).withTransit v := rfl
@[simp] theorem State.withTransit_withSync (v : Transit) (w : SyncTable) :
    (s.withTransit v).withSync w = (s.withSync w).withTransit v := rfl
@[simp] theorem State.withTransit_withGlyph (v : Transit) (w : GlyphTable) :
    (s.withTransit v).withGlyph w = (s.withGlyph w).withTransit v := rfl
@[simp] theorem State.withTransit_withSurfaces (v : Transit) (w : Vector Surface 16) :
    (s.withTransit v).withSurfaces w = (s.withSurfaces w).withTransit v := rfl
@[simp] theorem State.withTransit_withRaster (v : Transit) (w : RasterEngine) :
    (s.withTransit v).withRaster w = (s.withRaster w).withTransit v := rfl
@[simp] theorem State.withTransit_withLane (v : Transit) (w : LaneUnit) :
    (s.withTransit v).withLane w = (s.withLane w).withTransit v := rfl
@[simp] theorem State.withTransit_withPresentation (v : Transit) (w : PresentationUnit) :
    (s.withTransit v).withPresentation w = (s.withPresentation w).withTransit v := rfl
@[simp] theorem State.withTransit_withFrame (v : Transit) (w : Option Frame) :
    (s.withTransit v).withFrame w = (s.withFrame w).withTransit v := rfl
@[simp] theorem State.withTransit_withFrameMemory (v : Transit) (w : Memory) :
    (s.withTransit v).withFrameMemory w = (s.withFrameMemory w).withTransit v := rfl

@[simp] theorem State.withPending_withHost (v : List Instr) (w : HostPort) :
    (s.withPending v).withHost w = (s.withHost w).withPending v := rfl
@[simp] theorem State.withPending_withIntake (v : List Instr) (w : IntakeUnit) :
    (s.withPending v).withIntake w = (s.withIntake w).withPending v := rfl
@[simp] theorem State.withPending_withReport (v : List Instr) (w : ReportUnit) :
    (s.withPending v).withReport w = (s.withReport w).withPending v := rfl
@[simp] theorem State.withPending_withSync (v : List Instr) (w : SyncTable) :
    (s.withPending v).withSync w = (s.withSync w).withPending v := rfl
@[simp] theorem State.withPending_withGlyph (v : List Instr) (w : GlyphTable) :
    (s.withPending v).withGlyph w = (s.withGlyph w).withPending v := rfl
@[simp] theorem State.withPending_withSurfaces (v : List Instr) (w : Vector Surface 16) :
    (s.withPending v).withSurfaces w = (s.withSurfaces w).withPending v := rfl
@[simp] theorem State.withPending_withRaster (v : List Instr) (w : RasterEngine) :
    (s.withPending v).withRaster w = (s.withRaster w).withPending v := rfl
@[simp] theorem State.withPending_withLane (v : List Instr) (w : LaneUnit) :
    (s.withPending v).withLane w = (s.withLane w).withPending v := rfl
@[simp] theorem State.withPending_withPresentation (v : List Instr) (w : PresentationUnit) :
    (s.withPending v).withPresentation w = (s.withPresentation w).withPending v := rfl
@[simp] theorem State.withPending_withFrame (v : List Instr) (w : Option Frame) :
    (s.withPending v).withFrame w = (s.withFrame w).withPending v := rfl
@[simp] theorem State.withPending_withFrameMemory (v : List Instr) (w : Memory) :
    (s.withPending v).withFrameMemory w = (s.withFrameMemory w).withPending v := rfl
@[simp] theorem State.withPending_withTransit (v : List Instr) (w : Transit) :
    (s.withPending v).withTransit w = (s.withTransit w).withPending v := rfl

/-- Two states with equal fields are equal. -/
theorem State.eq_of_fields {s t : State} (h1 : s.host = t.host) (h2 : s.intake = t.intake)
    (h3 : s.report = t.report) (h4 : s.sync = t.sync) (h5 : s.glyph = t.glyph)
    (h6 : s.surfaces = t.surfaces) (h7 : s.raster = t.raster) (h8 : s.lane = t.lane)
    (h9 : s.presentation = t.presentation) (h10 : s.frame = t.frame) (h11 : s.frameMemory = t.frameMemory)
    (h12 : s.transit = t.transit) (h13 : s.pending = t.pending) : s = t := by
  cases s; cases t; simp_all

/-! ### Tables -/

theorem update_get {α : Type} {n : Nat} (v : Vector α n) (i j : Fin n) (x : α) :
    (update v i x)[j.1] = if j = i then x else v[j.1] := by
  by_cases h : j = i
  · subst h; simp [update]
  · have h' : i.1 ≠ j.1 := fun e => h (Fin.ext e.symm)
    simp [update, h, h']

@[simp] theorem update_self {α : Type} {n : Nat} (v : Vector α n) (i : Fin n) (x : α) :
    (update v i x)[i.1] = x := by simp [update_get]

theorem update_ne {α : Type} {n : Nat} (v : Vector α n) {i j : Fin n} (x : α) (h : j ≠ i) :
    (update v i x)[j.1] = v[j.1] := by simp [update_get, h]

@[simp] theorem update_same {α : Type} {n : Nat} (v : Vector α n) (i : Fin n) :
    update v i v[i.1] = v := by simp [update]

@[simp] theorem update_update {α : Type} {n : Nat} (v : Vector α n) (i : Fin n) (x y : α) :
    update (update v i x) i y = update v i y := by simp [update]

@[simp] theorem mapTable_get {α β : Type} {n : Nat} (f : α → β) (v : Vector α n) (i : Fin n) :
    (mapTable f v)[i.1] = f v[i.1] := by simp [mapTable]

/-! ### Rings -/

theorem State.modRing_ring (r q : RingId) (f : Ring → Ring) :
    (s.modRing r f).ring q = if q = r then f (s.ring r) else s.ring q := by
  simp [State.modRing, State.ring, update_get]

@[simp] theorem State.modRing_ring_self (r : RingId) (f : Ring → Ring) :
    (s.modRing r f).ring r = f (s.ring r) := by simp [State.modRing_ring]

theorem State.modRing_ring_ne {r q : RingId} (f : Ring → Ring) (h : q ≠ r) :
    (s.modRing r f).ring q = s.ring q := by simp [State.modRing_ring, h]

@[simp] theorem State.modRing_modRing (r : RingId) (f g : Ring → Ring) :
    (s.modRing r f).modRing r g = s.modRing r fun k => g (f k) := by
  simp [State.modRing, State.withIntake, State.ring]

@[simp] theorem State.modRing_fetch (r : RingId) (f : Ring → Ring) :
    (s.modRing r f).intake.fetch = s.intake.fetch := rfl
@[simp] theorem State.modRing_lastServed (r : RingId) (f : Ring → Ring) :
    (s.modRing r f).intake.lastServed = s.intake.lastServed := rfl
@[simp] theorem State.modRing_host (r : RingId) (f : Ring → Ring) : (s.modRing r f).host = s.host := rfl
@[simp] theorem State.modRing_report (r : RingId) (f : Ring → Ring) : (s.modRing r f).report = s.report := rfl
@[simp] theorem State.modRing_sync (r : RingId) (f : Ring → Ring) : (s.modRing r f).sync = s.sync := rfl
@[simp] theorem State.modRing_glyph (r : RingId) (f : Ring → Ring) : (s.modRing r f).glyph = s.glyph := rfl
@[simp] theorem State.modRing_surfaces (r : RingId) (f : Ring → Ring) : (s.modRing r f).surfaces = s.surfaces := rfl
@[simp] theorem State.modRing_raster (r : RingId) (f : Ring → Ring) : (s.modRing r f).raster = s.raster := rfl
@[simp] theorem State.modRing_lane (r : RingId) (f : Ring → Ring) : (s.modRing r f).lane = s.lane := rfl
@[simp] theorem State.modRing_presentation (r : RingId) (f : Ring → Ring) : (s.modRing r f).presentation = s.presentation := rfl
@[simp] theorem State.modRing_frame (r : RingId) (f : Ring → Ring) : (s.modRing r f).frame = s.frame := rfl
@[simp] theorem State.modRing_frameMemory (r : RingId) (f : Ring → Ring) : (s.modRing r f).frameMemory = s.frameMemory := rfl
@[simp] theorem State.modRing_transit (r : RingId) (f : Ring → Ring) : (s.modRing r f).transit = s.transit := rfl
@[simp] theorem State.modRing_pending (r : RingId) (f : Ring → Ring) : (s.modRing r f).pending = s.pending := rfl

/-! ### Lanes -/

theorem State.modLane_laneAt (l m : LaneId) (f : Lane → Lane) :
    (s.modLane l f).laneAt m = if m = l then f (s.laneAt l) else s.laneAt m := by
  simp [State.modLane, State.laneAt, update_get]

@[simp] theorem State.modLane_laneAt_self (l : LaneId) (f : Lane → Lane) :
    (s.modLane l f).laneAt l = f (s.laneAt l) := by simp [State.modLane_laneAt]

@[simp] theorem State.modLane_staging (l : LaneId) (f : Lane → Lane) :
    (s.modLane l f).lane.staging = s.lane.staging := rfl
@[simp] theorem State.modLane_service (l : LaneId) (f : Lane → Lane) :
    (s.modLane l f).lane.service = s.lane.service := rfl
@[simp] theorem State.modLane_entries (l : LaneId) (f : Lane → Lane) :
    (s.modLane l f).lane.entries = s.lane.entries := rfl
@[simp] theorem State.modLane_lostReads (l : LaneId) (f : Lane → Lane) :
    (s.modLane l f).lane.lostReads = s.lane.lostReads := rfl
@[simp] theorem State.modLane_host (l : LaneId) (f : Lane → Lane) : (s.modLane l f).host = s.host := rfl
@[simp] theorem State.modLane_intake (l : LaneId) (f : Lane → Lane) : (s.modLane l f).intake = s.intake := rfl
@[simp] theorem State.modLane_report (l : LaneId) (f : Lane → Lane) : (s.modLane l f).report = s.report := rfl
@[simp] theorem State.modLane_sync (l : LaneId) (f : Lane → Lane) : (s.modLane l f).sync = s.sync := rfl
@[simp] theorem State.modLane_glyph (l : LaneId) (f : Lane → Lane) : (s.modLane l f).glyph = s.glyph := rfl
@[simp] theorem State.modLane_surfaces (l : LaneId) (f : Lane → Lane) : (s.modLane l f).surfaces = s.surfaces := rfl
@[simp] theorem State.modLane_raster (l : LaneId) (f : Lane → Lane) : (s.modLane l f).raster = s.raster := rfl
@[simp] theorem State.modLane_presentation (l : LaneId) (f : Lane → Lane) : (s.modLane l f).presentation = s.presentation := rfl
@[simp] theorem State.modLane_frame (l : LaneId) (f : Lane → Lane) : (s.modLane l f).frame = s.frame := rfl
@[simp] theorem State.modLane_frameMemory (l : LaneId) (f : Lane → Lane) : (s.modLane l f).frameMemory = s.frameMemory := rfl
@[simp] theorem State.modLane_transit (l : LaneId) (f : Lane → Lane) : (s.modLane l f).transit = s.transit := rfl
@[simp] theorem State.modLane_pending (l : LaneId) (f : Lane → Lane) : (s.modLane l f).pending = s.pending := rfl

/-! ### Derived reads -/

@[simp] theorem State.withHost_ring (v : HostPort) (r : RingId) : (s.withHost v).ring r = s.ring r := rfl
@[simp] theorem State.withHost_laneAt (v : HostPort) (l : LaneId) : (s.withHost v).laneAt l = s.laneAt l := rfl
@[simp] theorem State.withHost_handedOver (v : HostPort) (r : RingId) :
    (s.withHost v).handedOver r = s.handedOver r := rfl
@[simp] theorem State.withIntake_part (v : IntakeUnit) : (s.withIntake v).part = s.part := rfl
@[simp] theorem State.withIntake_isRunning (v : IntakeUnit) : (s.withIntake v).isRunning = s.isRunning := rfl
@[simp] theorem State.withIntake_laneAt (v : IntakeUnit) (l : LaneId) : (s.withIntake v).laneAt l = s.laneAt l := rfl
@[simp] theorem State.withIntake_handedOver (v : IntakeUnit) (r : RingId) :
    (s.withIntake v).handedOver r = s.handedOver r := rfl
@[simp] theorem State.withReport_part (v : ReportUnit) : (s.withReport v).part = s.part := rfl
@[simp] theorem State.withReport_isRunning (v : ReportUnit) : (s.withReport v).isRunning = s.isRunning := rfl
@[simp] theorem State.withReport_ring (v : ReportUnit) (r : RingId) : (s.withReport v).ring r = s.ring r := rfl
@[simp] theorem State.withReport_laneAt (v : ReportUnit) (l : LaneId) : (s.withReport v).laneAt l = s.laneAt l := rfl
@[simp] theorem State.withReport_handedOver (v : ReportUnit) (r : RingId) :
    (s.withReport v).handedOver r = s.handedOver r := rfl
@[simp] theorem State.withSync_part (v : SyncTable) : (s.withSync v).part = s.part := rfl
@[simp] theorem State.withSync_isRunning (v : SyncTable) : (s.withSync v).isRunning = s.isRunning := rfl
@[simp] theorem State.withSync_ring (v : SyncTable) (r : RingId) : (s.withSync v).ring r = s.ring r := rfl
@[simp] theorem State.withSync_laneAt (v : SyncTable) (l : LaneId) : (s.withSync v).laneAt l = s.laneAt l := rfl
@[simp] theorem State.withSync_handedOver (v : SyncTable) (r : RingId) :
    (s.withSync v).handedOver r = s.handedOver r := rfl
@[simp] theorem State.withGlyph_part (v : GlyphTable) : (s.withGlyph v).part = s.part := rfl
@[simp] theorem State.withGlyph_isRunning (v : GlyphTable) : (s.withGlyph v).isRunning = s.isRunning := rfl
@[simp] theorem State.withGlyph_ring (v : GlyphTable) (r : RingId) : (s.withGlyph v).ring r = s.ring r := rfl
@[simp] theorem State.withGlyph_laneAt (v : GlyphTable) (l : LaneId) : (s.withGlyph v).laneAt l = s.laneAt l := rfl
@[simp] theorem State.withGlyph_handedOver (v : GlyphTable) (r : RingId) :
    (s.withGlyph v).handedOver r = s.handedOver r := rfl
@[simp] theorem State.withSurfaces_part (v : Vector Surface 16) : (s.withSurfaces v).part = s.part := rfl
@[simp] theorem State.withSurfaces_isRunning (v : Vector Surface 16) : (s.withSurfaces v).isRunning = s.isRunning := rfl
@[simp] theorem State.withSurfaces_ring (v : Vector Surface 16) (r : RingId) : (s.withSurfaces v).ring r = s.ring r := rfl
@[simp] theorem State.withSurfaces_laneAt (v : Vector Surface 16) (l : LaneId) : (s.withSurfaces v).laneAt l = s.laneAt l := rfl
@[simp] theorem State.withSurfaces_handedOver (v : Vector Surface 16) (r : RingId) :
    (s.withSurfaces v).handedOver r = s.handedOver r := rfl
@[simp] theorem State.withRaster_part (v : RasterEngine) : (s.withRaster v).part = s.part := rfl
@[simp] theorem State.withRaster_isRunning (v : RasterEngine) : (s.withRaster v).isRunning = s.isRunning := rfl
@[simp] theorem State.withRaster_ring (v : RasterEngine) (r : RingId) : (s.withRaster v).ring r = s.ring r := rfl
@[simp] theorem State.withRaster_laneAt (v : RasterEngine) (l : LaneId) : (s.withRaster v).laneAt l = s.laneAt l := rfl
@[simp] theorem State.withRaster_handedOver (v : RasterEngine) (r : RingId) :
    (s.withRaster v).handedOver r = s.handedOver r := rfl
@[simp] theorem State.withLane_part (v : LaneUnit) : (s.withLane v).part = s.part := rfl
@[simp] theorem State.withLane_isRunning (v : LaneUnit) : (s.withLane v).isRunning = s.isRunning := rfl
@[simp] theorem State.withLane_ring (v : LaneUnit) (r : RingId) : (s.withLane v).ring r = s.ring r := rfl
@[simp] theorem State.withLane_handedOver (v : LaneUnit) (r : RingId) :
    (s.withLane v).handedOver r = s.handedOver r := rfl
@[simp] theorem State.withPresentation_part (v : PresentationUnit) : (s.withPresentation v).part = s.part := rfl
@[simp] theorem State.withPresentation_isRunning (v : PresentationUnit) : (s.withPresentation v).isRunning = s.isRunning := rfl
@[simp] theorem State.withPresentation_ring (v : PresentationUnit) (r : RingId) : (s.withPresentation v).ring r = s.ring r := rfl
@[simp] theorem State.withPresentation_laneAt (v : PresentationUnit) (l : LaneId) : (s.withPresentation v).laneAt l = s.laneAt l := rfl
@[simp] theorem State.withPresentation_handedOver (v : PresentationUnit) (r : RingId) :
    (s.withPresentation v).handedOver r = s.handedOver r := rfl
@[simp] theorem State.withFrame_part (v : Option Frame) : (s.withFrame v).part = s.part := rfl
@[simp] theorem State.withFrame_isRunning (v : Option Frame) : (s.withFrame v).isRunning = s.isRunning := rfl
@[simp] theorem State.withFrame_ring (v : Option Frame) (r : RingId) : (s.withFrame v).ring r = s.ring r := rfl
@[simp] theorem State.withFrame_laneAt (v : Option Frame) (l : LaneId) : (s.withFrame v).laneAt l = s.laneAt l := rfl
@[simp] theorem State.withFrame_handedOver (v : Option Frame) (r : RingId) :
    (s.withFrame v).handedOver r = s.handedOver r := rfl
@[simp] theorem State.withFrameMemory_part (v : Memory) : (s.withFrameMemory v).part = s.part := rfl
@[simp] theorem State.withFrameMemory_isRunning (v : Memory) : (s.withFrameMemory v).isRunning = s.isRunning := rfl
@[simp] theorem State.withFrameMemory_ring (v : Memory) (r : RingId) : (s.withFrameMemory v).ring r = s.ring r := rfl
@[simp] theorem State.withFrameMemory_laneAt (v : Memory) (l : LaneId) : (s.withFrameMemory v).laneAt l = s.laneAt l := rfl
@[simp] theorem State.withFrameMemory_handedOver (v : Memory) (r : RingId) :
    (s.withFrameMemory v).handedOver r = s.handedOver r := rfl
@[simp] theorem State.withTransit_part (v : Transit) : (s.withTransit v).part = s.part := rfl
@[simp] theorem State.withTransit_isRunning (v : Transit) : (s.withTransit v).isRunning = s.isRunning := rfl
@[simp] theorem State.withTransit_ring (v : Transit) (r : RingId) : (s.withTransit v).ring r = s.ring r := rfl
@[simp] theorem State.withTransit_laneAt (v : Transit) (l : LaneId) : (s.withTransit v).laneAt l = s.laneAt l := rfl
@[simp] theorem State.withPending_part (v : List Instr) : (s.withPending v).part = s.part := rfl
@[simp] theorem State.withPending_isRunning (v : List Instr) : (s.withPending v).isRunning = s.isRunning := rfl
@[simp] theorem State.withPending_ring (v : List Instr) (r : RingId) : (s.withPending v).ring r = s.ring r := rfl
@[simp] theorem State.withPending_laneAt (v : List Instr) (l : LaneId) : (s.withPending v).laneAt l = s.laneAt l := rfl
@[simp] theorem State.withPending_handedOver (v : List Instr) (r : RingId) :
    (s.withPending v).handedOver r = s.handedOver r := rfl
@[simp] theorem State.modRing_part (r : RingId) (f : Ring → Ring) : (s.modRing r f).part = s.part := rfl
@[simp] theorem State.modRing_isRunning (r : RingId) (f : Ring → Ring) :
    (s.modRing r f).isRunning = s.isRunning := rfl
@[simp] theorem State.modRing_laneAt (r : RingId) (f : Ring → Ring) (l : LaneId) :
    (s.modRing r f).laneAt l = s.laneAt l := rfl
@[simp] theorem State.modLane_ring (l : LaneId) (f : Lane → Lane) (r : RingId) :
    (s.modLane l f).ring r = s.ring r := rfl
@[simp] theorem State.modLane_part (l : LaneId) (f : Lane → Lane) : (s.modLane l f).part = s.part := rfl
@[simp] theorem State.modLane_handedOver (l : LaneId) (f : Lane → Lane) (r : RingId) :
    (s.modLane l f).handedOver r = s.handedOver r := rfl
@[simp] theorem State.modRing_handedOver (r : RingId) (f : Ring → Ring) (q : RingId) :
    (s.modRing r f).handedOver q = s.handedOver q := rfl
@[simp] theorem State.modLane_isRunning (l : LaneId) (f : Lane → Lane) :
    (s.modLane l f).isRunning = s.isRunning := rfl

end Sys2Proof.Machine
end

