-- ==== Sys2Proof/Laws/Frames.lean ====
section
/-! SUPPORT. What each shared operation leaves alone: one lemma per operation, each of whose clauses names a
field, or a record of a field, that the operation does not change. -/

namespace Sys2Proof.Machine

variable (s : State)

/-! ### Messages -/

@[simp] theorem State.giveAnswer_frame (r : RingId) (a : Answer) :
    (s.giveAnswer r a).host = s.host ∧ (s.giveAnswer r a).part = s.part ∧ (s.giveAnswer r a).isRunning =
    s.isRunning ∧ (s.giveAnswer r a).intake = s.intake ∧ (∀ q, (s.giveAnswer r a).ring q = s.ring q) ∧
    (s.giveAnswer r a).report = s.report ∧ (s.giveAnswer r a).sync = s.sync ∧ (s.giveAnswer r a).glyph =
    s.glyph ∧ (s.giveAnswer r a).surfaces = s.surfaces ∧ (s.giveAnswer r a).raster = s.raster ∧
    (s.giveAnswer r a).lane = s.lane ∧ (∀ m, (s.giveAnswer r a).laneAt m = s.laneAt m) ∧ (s.giveAnswer r
    a).presentation = s.presentation ∧ (s.giveAnswer r a).frame = s.frame ∧ (s.giveAnswer r a).frameMemory =
    s.frameMemory ∧ (s.giveAnswer r a).pending = s.pending := by
  unfold State.giveAnswer
  try dsimp only
  (repeat' split) <;> simp

@[simp] theorem State.giveGlyphAnswer_frame (r : RingId) (a : Answer) :
    (s.giveGlyphAnswer r a).host = s.host ∧ (s.giveGlyphAnswer r a).part = s.part ∧ (s.giveGlyphAnswer r
    a).isRunning = s.isRunning ∧ (s.giveGlyphAnswer r a).intake = s.intake ∧ (∀ q, (s.giveGlyphAnswer r
    a).ring q = s.ring q) ∧ (s.giveGlyphAnswer r a).report = s.report ∧ (s.giveGlyphAnswer r a).sync = s.sync
    ∧ (s.giveGlyphAnswer r a).glyph = s.glyph ∧ (s.giveGlyphAnswer r a).surfaces = s.surfaces ∧
    (s.giveGlyphAnswer r a).raster = s.raster ∧ (s.giveGlyphAnswer r a).lane = s.lane ∧ (∀ m,
    (s.giveGlyphAnswer r a).laneAt m = s.laneAt m) ∧ (s.giveGlyphAnswer r a).presentation = s.presentation ∧
    (s.giveGlyphAnswer r a).frame = s.frame ∧ (s.giveGlyphAnswer r a).frameMemory = s.frameMemory ∧
    (s.giveGlyphAnswer r a).pending = s.pending := by
  unfold State.giveGlyphAnswer
  try dsimp only
  (repeat' split) <;> simp

@[simp] theorem State.clearHandover_frame (r : RingId) :
    (s.clearHandover r).host = s.host ∧ (s.clearHandover r).part = s.part ∧ (s.clearHandover r).isRunning =
    s.isRunning ∧ (s.clearHandover r).intake = s.intake ∧ (∀ q, (s.clearHandover r).ring q = s.ring q) ∧
    (s.clearHandover r).report = s.report ∧ (s.clearHandover r).sync = s.sync ∧ (s.clearHandover r).glyph =
    s.glyph ∧ (s.clearHandover r).surfaces = s.surfaces ∧ (s.clearHandover r).raster = s.raster ∧
    (s.clearHandover r).lane = s.lane ∧ (∀ m, (s.clearHandover r).laneAt m = s.laneAt m) ∧ (s.clearHandover
    r).presentation = s.presentation ∧ (s.clearHandover r).frame = s.frame ∧ (s.clearHandover r).frameMemory
    = s.frameMemory ∧ (s.clearHandover r).pending = s.pending := by
  simp [State.clearHandover]

@[simp] theorem State.setEvent_frame (e : Event) :
    (s.setEvent e).intake = s.intake ∧ (∀ q, (s.setEvent e).ring q = s.ring q) ∧ (s.setEvent e).report =
    s.report ∧ (s.setEvent e).sync = s.sync ∧ (s.setEvent e).glyph = s.glyph ∧ (s.setEvent e).surfaces =
    s.surfaces ∧ (s.setEvent e).raster = s.raster ∧ (s.setEvent e).lane = s.lane ∧ (∀ m, (s.setEvent
    e).laneAt m = s.laneAt m) ∧ (s.setEvent e).presentation = s.presentation ∧ (s.setEvent e).frame =
    s.frame ∧ (s.setEvent e).frameMemory = s.frameMemory ∧ (s.setEvent e).transit = s.transit ∧ (∀ q,
    (s.setEvent e).handedOver q = s.handedOver q) ∧ (s.setEvent e).pending = s.pending := by
  simp [State.setEvent]

/-! ### Reports -/

@[simp] theorem State.takeReport_frame (e : ReportEntry) :
    (s.takeReport e).host = s.host ∧ (s.takeReport e).part = s.part ∧ (s.takeReport e).isRunning =
    s.isRunning ∧ (s.takeReport e).intake = s.intake ∧ (∀ q, (s.takeReport e).ring q = s.ring q) ∧
    (s.takeReport e).sync = s.sync ∧ (s.takeReport e).glyph = s.glyph ∧ (s.takeReport e).surfaces =
    s.surfaces ∧ (s.takeReport e).raster = s.raster ∧ (s.takeReport e).lane = s.lane ∧ (∀ m, (s.takeReport
    e).laneAt m = s.laneAt m) ∧ (s.takeReport e).presentation = s.presentation ∧ (s.takeReport e).frame =
    s.frame ∧ (s.takeReport e).frameMemory = s.frameMemory ∧ (s.takeReport e).transit = s.transit ∧ (∀ q,
    (s.takeReport e).handedOver q = s.handedOver q) ∧ (s.takeReport e).pending = s.pending := by
  simp [State.takeReport]

@[simp] theorem State.startReportWrite_frame :
    s.startReportWrite.host = s.host ∧ s.startReportWrite.part = s.part ∧ s.startReportWrite.isRunning =
    s.isRunning ∧ s.startReportWrite.intake = s.intake ∧ (∀ q, s.startReportWrite.ring q = s.ring q) ∧
    s.startReportWrite.sync = s.sync ∧ s.startReportWrite.glyph = s.glyph ∧ s.startReportWrite.surfaces =
    s.surfaces ∧ s.startReportWrite.raster = s.raster ∧ s.startReportWrite.lane = s.lane ∧ (∀ m,
    s.startReportWrite.laneAt m = s.laneAt m) ∧ s.startReportWrite.presentation = s.presentation ∧
    s.startReportWrite.frame = s.frame ∧ s.startReportWrite.frameMemory = s.frameMemory ∧
    s.startReportWrite.transit = s.transit ∧ (∀ q, s.startReportWrite.handedOver q = s.handedOver q) ∧
    s.startReportWrite.pending = s.pending := by
  unfold State.startReportWrite
  try dsimp only
  (repeat' split) <;> simp

@[simp] theorem State.grantRing_frame (r : RingId) :
    (s.grantRing r).host = s.host ∧ (s.grantRing r).part = s.part ∧ (s.grantRing r).isRunning = s.isRunning
    ∧ (s.grantRing r).intake = s.intake ∧ (∀ q, (s.grantRing r).ring q = s.ring q) ∧ (s.grantRing r).sync =
    s.sync ∧ (s.grantRing r).glyph = s.glyph ∧ (s.grantRing r).surfaces = s.surfaces ∧ (s.grantRing
    r).raster = s.raster ∧ (s.grantRing r).lane = s.lane ∧ (∀ m, (s.grantRing r).laneAt m = s.laneAt m) ∧
    (s.grantRing r).presentation = s.presentation ∧ (s.grantRing r).frame = s.frame ∧ (s.grantRing
    r).frameMemory = s.frameMemory ∧ (s.grantRing r).pending = s.pending := by
  unfold State.grantRing
  try dsimp only
  (repeat' split) <;> simp

@[simp] theorem State.grantLane_frame (l : LaneId) :
    (s.grantLane l).host = s.host ∧ (s.grantLane l).part = s.part ∧ (s.grantLane l).isRunning = s.isRunning
    ∧ (s.grantLane l).intake = s.intake ∧ (∀ q, (s.grantLane l).ring q = s.ring q) ∧ (s.grantLane l).sync =
    s.sync ∧ (s.grantLane l).glyph = s.glyph ∧ (s.grantLane l).surfaces = s.surfaces ∧ (s.grantLane
    l).raster = s.raster ∧ (s.grantLane l).presentation = s.presentation ∧ (s.grantLane l).frame = s.frame ∧
    (s.grantLane l).frameMemory = s.frameMemory ∧ (s.grantLane l).transit = s.transit ∧ (∀ q, (s.grantLane
    l).handedOver q = s.handedOver q) ∧ (s.grantLane l).pending = s.pending := by
  unfold State.grantLane
  try dsimp only
  (repeat' split) <;> simp

theorem State.grant_cases {s t : State} (h : s.grant = some t) :
    s.isRunning = true ∧ s.report.hasRoom = true ∧
      ((∃ r, s.report.ringClass.head? = some r ∧ t = s.grantRing r) ∨
        ∃ l, s.laneClassHead = some l ∧ t = s.grantLane l) := by
  unfold State.grant at h
  split at h
  · rename_i hc
    simp only [Bool.and_eq_true] at hc
    refine ⟨hc.1, hc.2, ?_⟩
    split at h
    · cases h
    · cases h; exact .inl ⟨_, by assumption, rfl⟩
    · cases h; exact .inr ⟨_, by assumption, rfl⟩
    · split at h <;> cases h
      · exact .inl ⟨_, by assumption, rfl⟩
      · exact .inr ⟨_, by assumption, rfl⟩
  · cases h

@[simp] theorem State.grants_frame (n : Nat) :
    (State.grants n s).host = s.host ∧ (State.grants n s).part = s.part ∧ (State.grants n s).isRunning =
    s.isRunning ∧ (State.grants n s).intake = s.intake ∧ (∀ q, (State.grants n s).ring q = s.ring q) ∧
    (State.grants n s).sync = s.sync ∧ (State.grants n s).glyph = s.glyph ∧ (State.grants n s).surfaces =
    s.surfaces ∧ (State.grants n s).raster = s.raster ∧ (State.grants n s).presentation = s.presentation ∧
    (State.grants n s).frame = s.frame ∧ (State.grants n s).frameMemory = s.frameMemory ∧ (State.grants n
    s).pending = s.pending := by
  induction n generalizing s with
  | zero => simp [State.grants]
  | succ n ih =>
    unfold State.grants
    split
    · rename_i t h
      obtain ⟨_, _, ⟨r, _, rfl⟩ | ⟨l, _, rfl⟩⟩ := State.grant_cases h <;> simp [ih]
    · simp

@[simp] theorem State.serveReports_frame :
    s.serveReports.host = s.host ∧ s.serveReports.part = s.part ∧ s.serveReports.isRunning = s.isRunning ∧
    s.serveReports.intake = s.intake ∧ (∀ q, s.serveReports.ring q = s.ring q) ∧ s.serveReports.sync =
    s.sync ∧ s.serveReports.glyph = s.glyph ∧ s.serveReports.surfaces = s.surfaces ∧ s.serveReports.raster =
    s.raster ∧ s.serveReports.presentation = s.presentation ∧ s.serveReports.frame = s.frame ∧
    s.serveReports.frameMemory = s.frameMemory ∧ s.serveReports.pending = s.pending := by
  simp [State.serveReports]

@[simp] theorem State.offerRingReport_frame (r : RingId) (rep : RingReport) :
    (s.offerRingReport r rep).host = s.host ∧ (s.offerRingReport r rep).part = s.part ∧ (s.offerRingReport r
    rep).isRunning = s.isRunning ∧ (s.offerRingReport r rep).sync = s.sync ∧ (s.offerRingReport r rep).glyph
    = s.glyph ∧ (s.offerRingReport r rep).surfaces = s.surfaces ∧ (s.offerRingReport r rep).raster =
    s.raster ∧ (s.offerRingReport r rep).presentation = s.presentation ∧ (s.offerRingReport r rep).frame =
    s.frame ∧ (s.offerRingReport r rep).frameMemory = s.frameMemory ∧ (s.offerRingReport r rep).pending =
    s.pending := by
  simp [State.offerRingReport]

@[simp] theorem State.offerLaneEvent_frame (l : LaneId) (done : Bool) :
    (s.offerLaneEvent l done).host = s.host ∧ (s.offerLaneEvent l done).part = s.part ∧ (s.offerLaneEvent l
    done).isRunning = s.isRunning ∧ (s.offerLaneEvent l done).intake = s.intake ∧ (∀ q, (s.offerLaneEvent l
    done).ring q = s.ring q) ∧ (s.offerLaneEvent l done).sync = s.sync ∧ (s.offerLaneEvent l done).glyph =
    s.glyph ∧ (s.offerLaneEvent l done).surfaces = s.surfaces ∧ (s.offerLaneEvent l done).raster = s.raster
    ∧ (s.offerLaneEvent l done).presentation = s.presentation ∧ (s.offerLaneEvent l done).frame = s.frame ∧
    (s.offerLaneEvent l done).frameMemory = s.frameMemory ∧ (s.offerLaneEvent l done).pending = s.pending := by
  unfold State.offerLaneEvent
  try dsimp only
  (repeat' split) <;> simp

/-! ### The Intake Unit -/

@[simp] theorem State.statusDue_frame (r : RingId) :
    (s.statusDue r).host = s.host ∧ (s.statusDue r).part = s.part ∧ (s.statusDue r).isRunning = s.isRunning
    ∧ (s.statusDue r).report = s.report ∧ (s.statusDue r).sync = s.sync ∧ (s.statusDue r).glyph = s.glyph ∧
    (s.statusDue r).surfaces = s.surfaces ∧ (s.statusDue r).raster = s.raster ∧ (s.statusDue r).lane =
    s.lane ∧ (∀ m, (s.statusDue r).laneAt m = s.laneAt m) ∧ (s.statusDue r).presentation = s.presentation ∧
    (s.statusDue r).frame = s.frame ∧ (s.statusDue r).frameMemory = s.frameMemory ∧ (s.statusDue r).transit
    = s.transit ∧ (∀ q, (s.statusDue r).handedOver q = s.handedOver q) ∧ (s.statusDue r).pending = s.pending := by
  unfold State.statusDue
  try dsimp only
  (repeat' split) <;> simp

@[simp] theorem State.grantFetch_frame :
    s.grantFetch.host = s.host ∧ s.grantFetch.part = s.part ∧ s.grantFetch.isRunning = s.isRunning ∧
    s.grantFetch.report = s.report ∧ s.grantFetch.sync = s.sync ∧ s.grantFetch.glyph = s.glyph ∧
    s.grantFetch.surfaces = s.surfaces ∧ s.grantFetch.raster = s.raster ∧ s.grantFetch.lane = s.lane ∧ (∀ m,
    s.grantFetch.laneAt m = s.laneAt m) ∧ s.grantFetch.presentation = s.presentation ∧ s.grantFetch.frame =
    s.frame ∧ s.grantFetch.frameMemory = s.frameMemory ∧ s.grantFetch.transit = s.transit ∧ (∀ q,
    s.grantFetch.handedOver q = s.handedOver q) ∧ s.grantFetch.pending = s.pending := by
  unfold State.grantFetch
  try dsimp only
  (repeat' split) <;> simp

@[simp] theorem State.idleRing_frame (r : RingId) :
    (s.idleRing r).host = s.host ∧ (s.idleRing r).part = s.part ∧ (s.idleRing r).isRunning = s.isRunning ∧
    (s.idleRing r).report = s.report ∧ (s.idleRing r).sync = s.sync ∧ (s.idleRing r).glyph = s.glyph ∧
    (s.idleRing r).surfaces = s.surfaces ∧ (s.idleRing r).raster = s.raster ∧ (s.idleRing r).lane = s.lane ∧
    (∀ m, (s.idleRing r).laneAt m = s.laneAt m) ∧ (s.idleRing r).presentation = s.presentation ∧ (s.idleRing
    r).frame = s.frame ∧ (s.idleRing r).frameMemory = s.frameMemory ∧ (s.idleRing r).transit = s.transit ∧
    (∀ q, (s.idleRing r).handedOver q = s.handedOver q) ∧ (s.idleRing r).pending = s.pending := by
  unfold State.idleRing
  try dsimp only
  (repeat' split) <;> simp

@[simp] theorem State.endGroup_frame (r : RingId) :
    (s.endGroup r).host = s.host ∧ (s.endGroup r).part = s.part ∧ (s.endGroup r).isRunning = s.isRunning ∧
    (s.endGroup r).report = s.report ∧ (s.endGroup r).sync = s.sync ∧ (s.endGroup r).glyph = s.glyph ∧
    (s.endGroup r).surfaces = s.surfaces ∧ (s.endGroup r).raster = s.raster ∧ (s.endGroup r).lane = s.lane ∧
    (∀ m, (s.endGroup r).laneAt m = s.laneAt m) ∧ (s.endGroup r).presentation = s.presentation ∧ (s.endGroup
    r).frame = s.frame ∧ (s.endGroup r).frameMemory = s.frameMemory ∧ (s.endGroup r).transit = s.transit ∧
    (∀ q, (s.endGroup r).handedOver q = s.handedOver q) ∧ (s.endGroup r).pending = s.pending := by
  simp [State.endGroup]

@[simp] theorem State.endWalk_frame (r : RingId) (w : Walk) (isOpen : Bool) :
    (s.endWalk r w isOpen).host = s.host ∧ (s.endWalk r w isOpen).part = s.part ∧ (s.endWalk r w
    isOpen).isRunning = s.isRunning ∧ (s.endWalk r w isOpen).sync = s.sync ∧ (s.endWalk r w isOpen).glyph =
    s.glyph ∧ (s.endWalk r w isOpen).surfaces = s.surfaces ∧ (s.endWalk r w isOpen).raster = s.raster ∧
    (s.endWalk r w isOpen).presentation = s.presentation ∧ (s.endWalk r w isOpen).frame = s.frame ∧
    (s.endWalk r w isOpen).frameMemory = s.frameMemory ∧ (s.endWalk r w isOpen).pending = s.pending := by
  simp [State.endWalk]

@[simp] theorem State.openWalk_frame (r : RingId) (w : Walk) (cont : Bool) :
    (s.openWalk r w cont).host = s.host ∧ (s.openWalk r w cont).part = s.part ∧ (s.openWalk r w
    cont).isRunning = s.isRunning ∧ (s.openWalk r w cont).sync = s.sync ∧ (s.openWalk r w cont).glyph =
    s.glyph ∧ (s.openWalk r w cont).surfaces = s.surfaces ∧ (s.openWalk r w cont).raster = s.raster ∧
    (s.openWalk r w cont).presentation = s.presentation ∧ (s.openWalk r w cont).frame = s.frame ∧
    (s.openWalk r w cont).frameMemory = s.frameMemory ∧ (s.openWalk r w cont).pending = s.pending := by
  unfold State.openWalk
  try dsimp only
  (repeat' split) <;> simp

@[simp] theorem State.walkFetched_frame (r : RingId) (w : Walk) (read : ReadEnd) :
    (s.walkFetched r w read).host = s.host ∧ (s.walkFetched r w read).part = s.part ∧ (s.walkFetched r w
    read).isRunning = s.isRunning ∧ (s.walkFetched r w read).sync = s.sync ∧ (s.walkFetched r w read).glyph
    = s.glyph ∧ (s.walkFetched r w read).surfaces = s.surfaces ∧ (s.walkFetched r w read).raster = s.raster
    ∧ (s.walkFetched r w read).presentation = s.presentation ∧ (s.walkFetched r w read).frame = s.frame ∧
    (s.walkFetched r w read).frameMemory = s.frameMemory ∧ (s.walkFetched r w read).pending = s.pending := by
  unfold State.walkFetched
  try dsimp only
  (repeat' split) <;> simp

@[simp] theorem State.fetchFailed_frame (r : RingId) :
    (s.fetchFailed r).host = s.host ∧ (s.fetchFailed r).part = s.part ∧ (s.fetchFailed r).isRunning =
    s.isRunning ∧ (s.fetchFailed r).sync = s.sync ∧ (s.fetchFailed r).glyph = s.glyph ∧ (s.fetchFailed
    r).surfaces = s.surfaces ∧ (s.fetchFailed r).raster = s.raster ∧ (s.fetchFailed r).presentation =
    s.presentation ∧ (s.fetchFailed r).frame = s.frame ∧ (s.fetchFailed r).frameMemory = s.frameMemory ∧
    (s.fetchFailed r).pending = s.pending := by
  simp [State.fetchFailed]

@[simp] theorem State.ringFault_frame (r : RingId) (e : WorkEntry) (index : Nat) (status : Status) :
    (s.ringFault r e index status).host = s.host ∧ (s.ringFault r e index status).part = s.part ∧
    (s.ringFault r e index status).isRunning = s.isRunning ∧ (s.ringFault r e index status).sync = s.sync ∧
    (s.ringFault r e index status).glyph = s.glyph ∧ (s.ringFault r e index status).surfaces = s.surfaces ∧
    (s.ringFault r e index status).raster = s.raster ∧ (s.ringFault r e index status).presentation =
    s.presentation ∧ (s.ringFault r e index status).frame = s.frame ∧ (s.ringFault r e index
    status).frameMemory = s.frameMemory ∧ (s.ringFault r e index status).pending = s.pending := by
  simp [State.ringFault]

@[simp] theorem State.completeEntry_frame (r : RingId) (v : EntryInService) (a : Answer) :
    (s.completeEntry r v a).host = s.host ∧ (s.completeEntry r v a).part = s.part ∧ (s.completeEntry r v
    a).isRunning = s.isRunning ∧ (s.completeEntry r v a).sync = s.sync ∧ (s.completeEntry r v a).glyph =
    s.glyph ∧ (s.completeEntry r v a).surfaces = s.surfaces ∧ (s.completeEntry r v a).raster = s.raster ∧
    (s.completeEntry r v a).presentation = s.presentation ∧ (s.completeEntry r v a).frame = s.frame ∧
    (s.completeEntry r v a).frameMemory = s.frameMemory ∧ (s.completeEntry r v a).pending = s.pending := by
  unfold State.completeEntry
  try dsimp only
  (repeat' split) <;> simp

@[simp] theorem State.takeAnswer_frame (r : RingId) (a : Answer) :
    (s.takeAnswer r a).host = s.host ∧ (s.takeAnswer r a).part = s.part ∧ (s.takeAnswer r a).isRunning =
    s.isRunning ∧ (s.takeAnswer r a).sync = s.sync ∧ (s.takeAnswer r a).glyph = s.glyph ∧ (s.takeAnswer r
    a).surfaces = s.surfaces ∧ (s.takeAnswer r a).raster = s.raster ∧ (s.takeAnswer r a).presentation =
    s.presentation ∧ (s.takeAnswer r a).frame = s.frame ∧ (s.takeAnswer r a).frameMemory = s.frameMemory ∧
    (s.takeAnswer r a).pending = s.pending := by
  unfold State.takeAnswer
  try dsimp only
  (repeat' split) <;> simp

@[simp] theorem State.skipEntry_frame (r : RingId) (e : WorkEntry) :
    (s.skipEntry r e).host = s.host ∧ (s.skipEntry r e).part = s.part ∧ (s.skipEntry r e).isRunning =
    s.isRunning ∧ (s.skipEntry r e).report = s.report ∧ (s.skipEntry r e).sync = s.sync ∧ (s.skipEntry r
    e).glyph = s.glyph ∧ (s.skipEntry r e).surfaces = s.surfaces ∧ (s.skipEntry r e).raster = s.raster ∧
    (s.skipEntry r e).lane = s.lane ∧ (∀ m, (s.skipEntry r e).laneAt m = s.laneAt m) ∧ (s.skipEntry r
    e).presentation = s.presentation ∧ (s.skipEntry r e).frame = s.frame ∧ (s.skipEntry r e).frameMemory =
    s.frameMemory ∧ (s.skipEntry r e).transit = s.transit ∧ (∀ q, (s.skipEntry r e).handedOver q =
    s.handedOver q) ∧ (s.skipEntry r e).pending = s.pending := by
  simp [State.skipEntry]

@[simp] theorem State.handEntry_frame (r : RingId) (e : WorkEntry) (index : Nat) (kind : Kind) :
    (s.handEntry r e index kind).host = s.host ∧ (s.handEntry r e index kind).part = s.part ∧ (s.handEntry r
    e index kind).isRunning = s.isRunning ∧ (s.handEntry r e index kind).sync = s.sync ∧ (s.handEntry r e
    index kind).glyph = s.glyph ∧ (s.handEntry r e index kind).surfaces = s.surfaces ∧ (s.handEntry r e
    index kind).raster = s.raster ∧ (s.handEntry r e index kind).presentation = s.presentation ∧
    (s.handEntry r e index kind).frame = s.frame ∧ (s.handEntry r e index kind).frameMemory = s.frameMemory
    ∧ (s.handEntry r e index kind).pending = s.pending := by
  unfold State.handEntry
  try dsimp only
  (repeat' split) <;> simp

@[simp] theorem State.validateEntry_frame (r : RingId) (e : WorkEntry) :
    (s.validateEntry r e).host = s.host ∧ (s.validateEntry r e).part = s.part ∧ (s.validateEntry r
    e).isRunning = s.isRunning ∧ (s.validateEntry r e).sync = s.sync ∧ (s.validateEntry r e).glyph = s.glyph
    ∧ (s.validateEntry r e).surfaces = s.surfaces ∧ (s.validateEntry r e).raster = s.raster ∧
    (s.validateEntry r e).presentation = s.presentation ∧ (s.validateEntry r e).frame = s.frame ∧
    (s.validateEntry r e).frameMemory = s.frameMemory ∧ (s.validateEntry r e).pending = s.pending := by
  unfold State.validateEntry
  try dsimp only
  (repeat' split) <;> simp

@[simp] theorem State.fetched_frame (r : RingId) (read : ReadEnd) :
    (s.fetched r read).host = s.host ∧ (s.fetched r read).part = s.part ∧ (s.fetched r read).isRunning =
    s.isRunning ∧ (s.fetched r read).sync = s.sync ∧ (s.fetched r read).glyph = s.glyph ∧ (s.fetched r
    read).surfaces = s.surfaces ∧ (s.fetched r read).raster = s.raster ∧ (s.fetched r read).presentation =
    s.presentation ∧ (s.fetched r read).frame = s.frame ∧ (s.fetched r read).frameMemory = s.frameMemory ∧
    (s.fetched r read).pending = s.pending := by
  unfold State.fetched
  try dsimp only
  (repeat' split) <;> simp

@[simp] theorem State.acceptReport_frame (r : RingId) :
    (s.acceptReport r).host = s.host ∧ (s.acceptReport r).part = s.part ∧ (s.acceptReport r).isRunning =
    s.isRunning ∧ (s.acceptReport r).report = s.report ∧ (s.acceptReport r).sync = s.sync ∧ (s.acceptReport
    r).glyph = s.glyph ∧ (s.acceptReport r).surfaces = s.surfaces ∧ (s.acceptReport r).raster = s.raster ∧
    (s.acceptReport r).lane = s.lane ∧ (∀ m, (s.acceptReport r).laneAt m = s.laneAt m) ∧ (s.acceptReport
    r).presentation = s.presentation ∧ (s.acceptReport r).frame = s.frame ∧ (s.acceptReport r).frameMemory =
    s.frameMemory ∧ (s.acceptReport r).transit = s.transit ∧ (∀ q, (s.acceptReport r).handedOver q =
    s.handedOver q) ∧ (s.acceptReport r).pending = s.pending := by
  unfold State.acceptReport
  try dsimp only
  (repeat' split) <;> simp

@[simp] theorem State.sendCancel_frame (r : RingId) :
    (s.sendCancel r).host = s.host ∧ (s.sendCancel r).part = s.part ∧ (s.sendCancel r).isRunning =
    s.isRunning ∧ (s.sendCancel r).intake = s.intake ∧ (∀ q, (s.sendCancel r).ring q = s.ring q) ∧
    (s.sendCancel r).report = s.report ∧ (s.sendCancel r).sync = s.sync ∧ (s.sendCancel r).glyph = s.glyph ∧
    (s.sendCancel r).surfaces = s.surfaces ∧ (s.sendCancel r).raster = s.raster ∧ (s.sendCancel r).lane =
    s.lane ∧ (∀ m, (s.sendCancel r).laneAt m = s.laneAt m) ∧ (s.sendCancel r).presentation = s.presentation
    ∧ (s.sendCancel r).frame = s.frame ∧ (s.sendCancel r).frameMemory = s.frameMemory ∧ (s.sendCancel
    r).pending = s.pending := by
  unfold State.sendCancel
  try dsimp only
  (repeat' split) <;> simp

/-! ### The Sync Table -/

@[simp] theorem State.answerRings_frame (a : Answer) (l : List RingId) :
    (State.answerRings a l s).host = s.host ∧ (State.answerRings a l s).part = s.part ∧ (State.answerRings a
    l s).isRunning = s.isRunning ∧ (State.answerRings a l s).intake = s.intake ∧ (∀ q, (State.answerRings a
    l s).ring q = s.ring q) ∧ (State.answerRings a l s).report = s.report ∧ (State.answerRings a l s).sync =
    s.sync ∧ (State.answerRings a l s).glyph = s.glyph ∧ (State.answerRings a l s).surfaces = s.surfaces ∧
    (State.answerRings a l s).raster = s.raster ∧ (State.answerRings a l s).lane = s.lane ∧ (∀ m,
    (State.answerRings a l s).laneAt m = s.laneAt m) ∧ (State.answerRings a l s).presentation =
    s.presentation ∧ (State.answerRings a l s).frame = s.frame ∧ (State.answerRings a l s).frameMemory =
    s.frameMemory ∧ (State.answerRings a l s).pending = s.pending := by
  induction l generalizing s with
  | nil => simp [State.answerRings]
  | cons x xs ih => simp [State.answerRings, ih]

@[simp] theorem State.retest_frame (c : CounterId) :
    (s.retest c).host = s.host ∧ (s.retest c).part = s.part ∧ (s.retest c).isRunning = s.isRunning ∧
    (s.retest c).intake = s.intake ∧ (∀ q, (s.retest c).ring q = s.ring q) ∧ (s.retest c).report = s.report
    ∧ (s.retest c).glyph = s.glyph ∧ (s.retest c).surfaces = s.surfaces ∧ (s.retest c).raster = s.raster ∧
    (s.retest c).lane = s.lane ∧ (∀ m, (s.retest c).laneAt m = s.laneAt m) ∧ (s.retest c).presentation =
    s.presentation ∧ (s.retest c).frame = s.frame ∧ (s.retest c).frameMemory = s.frameMemory ∧ (s.retest
    c).pending = s.pending := by
  simp [State.retest]

@[simp] theorem State.setCounter_frame (c : CounterId) (value : Word) :
    (s.setCounter c value).host = s.host ∧ (s.setCounter c value).part = s.part ∧ (s.setCounter c
    value).isRunning = s.isRunning ∧ (s.setCounter c value).intake = s.intake ∧ (∀ q, (s.setCounter c
    value).ring q = s.ring q) ∧ (s.setCounter c value).report = s.report ∧ (s.setCounter c value).glyph =
    s.glyph ∧ (s.setCounter c value).surfaces = s.surfaces ∧ (s.setCounter c value).raster = s.raster ∧
    (s.setCounter c value).lane = s.lane ∧ (∀ m, (s.setCounter c value).laneAt m = s.laneAt m) ∧
    (s.setCounter c value).presentation = s.presentation ∧ (s.setCounter c value).frame = s.frame ∧
    (s.setCounter c value).frameMemory = s.frameMemory ∧ (s.setCounter c value).pending = s.pending := by
  simp [State.setCounter]

@[simp] theorem State.addCounter_frame (c : CounterId) (value : Word) :
    (s.addCounter c value).host = s.host ∧ (s.addCounter c value).part = s.part ∧ (s.addCounter c
    value).isRunning = s.isRunning ∧ (s.addCounter c value).intake = s.intake ∧ (∀ q, (s.addCounter c
    value).ring q = s.ring q) ∧ (s.addCounter c value).report = s.report ∧ (s.addCounter c value).glyph =
    s.glyph ∧ (s.addCounter c value).surfaces = s.surfaces ∧ (s.addCounter c value).raster = s.raster ∧
    (s.addCounter c value).lane = s.lane ∧ (∀ m, (s.addCounter c value).laneAt m = s.laneAt m) ∧
    (s.addCounter c value).presentation = s.presentation ∧ (s.addCounter c value).frame = s.frame ∧
    (s.addCounter c value).frameMemory = s.frameMemory ∧ (s.addCounter c value).pending = s.pending := by
  simp [State.addCounter]

@[simp] theorem State.timeOutWaiter_frame (r : RingId) :
    (s.timeOutWaiter r).host = s.host ∧ (s.timeOutWaiter r).part = s.part ∧ (s.timeOutWaiter r).isRunning =
    s.isRunning ∧ (s.timeOutWaiter r).intake = s.intake ∧ (∀ q, (s.timeOutWaiter r).ring q = s.ring q) ∧
    (s.timeOutWaiter r).report = s.report ∧ (s.timeOutWaiter r).glyph = s.glyph ∧ (s.timeOutWaiter
    r).surfaces = s.surfaces ∧ (s.timeOutWaiter r).raster = s.raster ∧ (s.timeOutWaiter r).lane = s.lane ∧
    (∀ m, (s.timeOutWaiter r).laneAt m = s.laneAt m) ∧ (s.timeOutWaiter r).presentation = s.presentation ∧
    (s.timeOutWaiter r).frame = s.frame ∧ (s.timeOutWaiter r).frameMemory = s.frameMemory ∧ (s.timeOutWaiter
    r).pending = s.pending := by
  unfold State.timeOutWaiter
  try dsimp only
  (repeat' split) <;> simp

@[simp] theorem State.endFrameWait_frame (r : RingId) :
    (s.endFrameWait r).host = s.host ∧ (s.endFrameWait r).part = s.part ∧ (s.endFrameWait r).isRunning =
    s.isRunning ∧ (s.endFrameWait r).intake = s.intake ∧ (∀ q, (s.endFrameWait r).ring q = s.ring q) ∧
    (s.endFrameWait r).report = s.report ∧ (s.endFrameWait r).glyph = s.glyph ∧ (s.endFrameWait r).surfaces
    = s.surfaces ∧ (s.endFrameWait r).raster = s.raster ∧ (s.endFrameWait r).lane = s.lane ∧ (∀ m,
    (s.endFrameWait r).laneAt m = s.laneAt m) ∧ (s.endFrameWait r).presentation = s.presentation ∧
    (s.endFrameWait r).frame = s.frame ∧ (s.endFrameWait r).frameMemory = s.frameMemory ∧ (s.endFrameWait
    r).pending = s.pending := by
  unfold State.endFrameWait
  try dsimp only
  (repeat' split) <;> simp

@[simp] theorem State.timeOutWaiters_frame (l : List RingId) :
    (State.timeOutWaiters l s).host = s.host ∧ (State.timeOutWaiters l s).part = s.part ∧
    (State.timeOutWaiters l s).isRunning = s.isRunning ∧ (State.timeOutWaiters l s).intake = s.intake ∧ (∀
    q, (State.timeOutWaiters l s).ring q = s.ring q) ∧ (State.timeOutWaiters l s).report = s.report ∧
    (State.timeOutWaiters l s).glyph = s.glyph ∧ (State.timeOutWaiters l s).surfaces = s.surfaces ∧
    (State.timeOutWaiters l s).raster = s.raster ∧ (State.timeOutWaiters l s).lane = s.lane ∧ (∀ m,
    (State.timeOutWaiters l s).laneAt m = s.laneAt m) ∧ (State.timeOutWaiters l s).presentation =
    s.presentation ∧ (State.timeOutWaiters l s).frame = s.frame ∧ (State.timeOutWaiters l s).frameMemory =
    s.frameMemory ∧ (State.timeOutWaiters l s).pending = s.pending := by
  induction l generalizing s with
  | nil => simp [State.timeOutWaiters]
  | cons x xs ih => simp [State.timeOutWaiters, ih]

@[simp] theorem State.endFrameWaits_frame (l : List RingId) :
    (State.endFrameWaits l s).host = s.host ∧ (State.endFrameWaits l s).part = s.part ∧ (State.endFrameWaits
    l s).isRunning = s.isRunning ∧ (State.endFrameWaits l s).intake = s.intake ∧ (∀ q, (State.endFrameWaits
    l s).ring q = s.ring q) ∧ (State.endFrameWaits l s).report = s.report ∧ (State.endFrameWaits l s).glyph
    = s.glyph ∧ (State.endFrameWaits l s).surfaces = s.surfaces ∧ (State.endFrameWaits l s).raster =
    s.raster ∧ (State.endFrameWaits l s).lane = s.lane ∧ (∀ m, (State.endFrameWaits l s).laneAt m = s.laneAt
    m) ∧ (State.endFrameWaits l s).presentation = s.presentation ∧ (State.endFrameWaits l s).frame = s.frame
    ∧ (State.endFrameWaits l s).frameMemory = s.frameMemory ∧ (State.endFrameWaits l s).pending = s.pending := by
  induction l generalizing s with
  | nil => simp [State.endFrameWaits]
  | cons x xs ih => simp [State.endFrameWaits, ih]

@[simp] theorem State.syncFrame_frame :
    s.syncFrame.host = s.host ∧ s.syncFrame.part = s.part ∧ s.syncFrame.isRunning = s.isRunning ∧
    s.syncFrame.intake = s.intake ∧ (∀ q, s.syncFrame.ring q = s.ring q) ∧ s.syncFrame.report = s.report ∧
    s.syncFrame.glyph = s.glyph ∧ s.syncFrame.surfaces = s.surfaces ∧ s.syncFrame.raster = s.raster ∧
    s.syncFrame.lane = s.lane ∧ (∀ m, s.syncFrame.laneAt m = s.laneAt m) ∧ s.syncFrame.presentation =
    s.presentation ∧ s.syncFrame.frame = s.frame ∧ s.syncFrame.frameMemory = s.frameMemory ∧
    s.syncFrame.pending = s.pending := by
  simp [State.syncFrame]

@[simp] theorem State.cancelWait_frame (r : RingId) :
    (s.cancelWait r).host = s.host ∧ (s.cancelWait r).part = s.part ∧ (s.cancelWait r).isRunning =
    s.isRunning ∧ (s.cancelWait r).intake = s.intake ∧ (∀ q, (s.cancelWait r).ring q = s.ring q) ∧
    (s.cancelWait r).report = s.report ∧ (s.cancelWait r).glyph = s.glyph ∧ (s.cancelWait r).surfaces =
    s.surfaces ∧ (s.cancelWait r).raster = s.raster ∧ (s.cancelWait r).lane = s.lane ∧ (∀ m, (s.cancelWait
    r).laneAt m = s.laneAt m) ∧ (s.cancelWait r).presentation = s.presentation ∧ (s.cancelWait r).frame =
    s.frame ∧ (s.cancelWait r).frameMemory = s.frameMemory ∧ (s.cancelWait r).pending = s.pending := by
  unfold State.cancelWait
  try dsimp only
  (repeat' split) <;> simp

@[simp] theorem State.haltSync_frame :
    s.haltSync.host = s.host ∧ s.haltSync.part = s.part ∧ s.haltSync.isRunning = s.isRunning ∧
    s.haltSync.intake = s.intake ∧ (∀ q, s.haltSync.ring q = s.ring q) ∧ s.haltSync.report = s.report ∧
    s.haltSync.glyph = s.glyph ∧ s.haltSync.surfaces = s.surfaces ∧ s.haltSync.raster = s.raster ∧
    s.haltSync.lane = s.lane ∧ (∀ m, s.haltSync.laneAt m = s.laneAt m) ∧ s.haltSync.presentation =
    s.presentation ∧ s.haltSync.frame = s.frame ∧ s.haltSync.frameMemory = s.frameMemory ∧
    s.haltSync.pending = s.pending := by
  simp [State.haltSync]

/-! ### The Presentation Unit -/

@[simp] theorem State.withBackgrounds_frame (u : PresentationUnit) :
    (s.withBackgrounds u).host = s.host ∧ (s.withBackgrounds u).part = s.part ∧ (s.withBackgrounds
    u).isRunning = s.isRunning ∧ (s.withBackgrounds u).intake = s.intake ∧ (∀ q, (s.withBackgrounds u).ring
    q = s.ring q) ∧ (s.withBackgrounds u).report = s.report ∧ (s.withBackgrounds u).sync = s.sync ∧
    (s.withBackgrounds u).glyph = s.glyph ∧ (s.withBackgrounds u).raster = s.raster ∧ (s.withBackgrounds
    u).lane = s.lane ∧ (∀ m, (s.withBackgrounds u).laneAt m = s.laneAt m) ∧ (s.withBackgrounds u).frame =
    s.frame ∧ (s.withBackgrounds u).frameMemory = s.frameMemory ∧ (s.withBackgrounds u).transit = s.transit
    ∧ (∀ q, (s.withBackgrounds u).handedOver q = s.handedOver q) ∧ (s.withBackgrounds u).pending = s.pending := by
  simp [State.withBackgrounds]

@[simp] theorem State.setPendingBackground_frame (b : Background) (r : RingId) :
    (s.setPendingBackground b r).host = s.host ∧ (s.setPendingBackground b r).part = s.part ∧
    (s.setPendingBackground b r).isRunning = s.isRunning ∧ (s.setPendingBackground b r).intake = s.intake ∧
    (∀ q, (s.setPendingBackground b r).ring q = s.ring q) ∧ (s.setPendingBackground b r).report = s.report ∧
    (s.setPendingBackground b r).sync = s.sync ∧ (s.setPendingBackground b r).glyph = s.glyph ∧
    (s.setPendingBackground b r).raster = s.raster ∧ (s.setPendingBackground b r).lane = s.lane ∧ (∀ m,
    (s.setPendingBackground b r).laneAt m = s.laneAt m) ∧ (s.setPendingBackground b r).frame = s.frame ∧
    (s.setPendingBackground b r).frameMemory = s.frameMemory ∧ (s.setPendingBackground b r).transit =
    s.transit ∧ (∀ q, (s.setPendingBackground b r).handedOver q = s.handedOver q) ∧ (s.setPendingBackground
    b r).pending = s.pending := by
  simp [State.setPendingBackground]

@[simp] theorem State.promoteQueue_frame (l : List RingEntry) :
    (State.promoteQueue l s).host = s.host ∧ (State.promoteQueue l s).part = s.part ∧ (State.promoteQueue l
    s).isRunning = s.isRunning ∧ (State.promoteQueue l s).intake = s.intake ∧ (∀ q, (State.promoteQueue l
    s).ring q = s.ring q) ∧ (State.promoteQueue l s).report = s.report ∧ (State.promoteQueue l s).sync =
    s.sync ∧ (State.promoteQueue l s).glyph = s.glyph ∧ (State.promoteQueue l s).raster = s.raster ∧
    (State.promoteQueue l s).lane = s.lane ∧ (∀ m, (State.promoteQueue l s).laneAt m = s.laneAt m) ∧
    (State.promoteQueue l s).frame = s.frame ∧ (State.promoteQueue l s).frameMemory = s.frameMemory ∧
    (State.promoteQueue l s).pending = s.pending := by
  induction l generalizing s with
  | nil => simp [State.promoteQueue]
  | cons x xs ih => simp only [State.promoteQueue]; (repeat' split) <;> simp [ih]

@[simp] theorem State.answerPresent_frame (r : Option RingId) :
    (s.answerPresent r).host = s.host ∧ (s.answerPresent r).part = s.part ∧ (s.answerPresent r).isRunning =
    s.isRunning ∧ (s.answerPresent r).intake = s.intake ∧ (∀ q, (s.answerPresent r).ring q = s.ring q) ∧
    (s.answerPresent r).report = s.report ∧ (s.answerPresent r).sync = s.sync ∧ (s.answerPresent r).glyph =
    s.glyph ∧ (s.answerPresent r).surfaces = s.surfaces ∧ (s.answerPresent r).raster = s.raster ∧
    (s.answerPresent r).lane = s.lane ∧ (∀ m, (s.answerPresent r).laneAt m = s.laneAt m) ∧ (s.answerPresent
    r).presentation = s.presentation ∧ (s.answerPresent r).frame = s.frame ∧ (s.answerPresent r).frameMemory
    = s.frameMemory ∧ (s.answerPresent r).pending = s.pending := by
  unfold State.answerPresent
  try dsimp only
  (repeat' split) <;> simp

@[simp] theorem State.promote_frame :
    s.promote.host = s.host ∧ s.promote.part = s.part ∧ s.promote.isRunning = s.isRunning ∧ s.promote.intake
    = s.intake ∧ (∀ q, s.promote.ring q = s.ring q) ∧ s.promote.report = s.report ∧ s.promote.sync = s.sync
    ∧ s.promote.glyph = s.glyph ∧ s.promote.raster = s.raster ∧ s.promote.lane = s.lane ∧ (∀ m,
    s.promote.laneAt m = s.laneAt m) ∧ s.promote.frame = s.frame ∧ s.promote.frameMemory = s.frameMemory ∧
    s.promote.pending = s.pending := by
  unfold State.promote
  try dsimp only
  (repeat' split) <;> simp

@[simp] theorem State.announceFrame_frame :
    s.announceFrame.host = s.host ∧ s.announceFrame.part = s.part ∧ s.announceFrame.isRunning = s.isRunning
    ∧ s.announceFrame.intake = s.intake ∧ (∀ q, s.announceFrame.ring q = s.ring q) ∧ s.announceFrame.report
    = s.report ∧ s.announceFrame.sync = s.sync ∧ s.announceFrame.glyph = s.glyph ∧ s.announceFrame.surfaces
    = s.surfaces ∧ s.announceFrame.raster = s.raster ∧ s.announceFrame.lane = s.lane ∧ (∀ m,
    s.announceFrame.laneAt m = s.laneAt m) ∧ s.announceFrame.presentation = s.presentation ∧
    s.announceFrame.frame = s.frame ∧ s.announceFrame.frameMemory = s.frameMemory ∧ s.announceFrame.pending
    = s.pending := by
  simp [State.announceFrame]

@[simp] theorem State.frameStart_frame :
    s.frameStart.host = s.host ∧ s.frameStart.part = s.part ∧ s.frameStart.isRunning = s.isRunning ∧
    s.frameStart.intake = s.intake ∧ (∀ q, s.frameStart.ring q = s.ring q) ∧ s.frameStart.report = s.report
    ∧ s.frameStart.sync = s.sync ∧ s.frameStart.glyph = s.glyph ∧ s.frameStart.raster = s.raster ∧
    s.frameStart.lane = s.lane ∧ (∀ m, s.frameStart.laneAt m = s.laneAt m) ∧ s.frameStart.frame = s.frame ∧
    s.frameStart.frameMemory = s.frameMemory ∧ s.frameStart.pending = s.pending := by
  simp [State.frameStart]

@[simp] theorem State.cancelPresent_frame (r : RingId) :
    (s.cancelPresent r).host = s.host ∧ (s.cancelPresent r).part = s.part ∧ (s.cancelPresent r).isRunning =
    s.isRunning ∧ (s.cancelPresent r).intake = s.intake ∧ (∀ q, (s.cancelPresent r).ring q = s.ring q) ∧
    (s.cancelPresent r).report = s.report ∧ (s.cancelPresent r).sync = s.sync ∧ (s.cancelPresent r).glyph =
    s.glyph ∧ (s.cancelPresent r).surfaces = s.surfaces ∧ (s.cancelPresent r).raster = s.raster ∧
    (s.cancelPresent r).lane = s.lane ∧ (∀ m, (s.cancelPresent r).laneAt m = s.laneAt m) ∧ (s.cancelPresent
    r).frame = s.frame ∧ (s.cancelPresent r).frameMemory = s.frameMemory ∧ (s.cancelPresent r).pending =
    s.pending := by
  unfold State.cancelPresent
  try dsimp only
  (repeat' split) <;> simp

@[simp] theorem State.haltPresentation_frame :
    s.haltPresentation.host = s.host ∧ s.haltPresentation.part = s.part ∧ s.haltPresentation.isRunning =
    s.isRunning ∧ s.haltPresentation.intake = s.intake ∧ (∀ q, s.haltPresentation.ring q = s.ring q) ∧
    s.haltPresentation.report = s.report ∧ s.haltPresentation.sync = s.sync ∧ s.haltPresentation.glyph =
    s.glyph ∧ s.haltPresentation.surfaces = s.surfaces ∧ s.haltPresentation.raster = s.raster ∧
    s.haltPresentation.lane = s.lane ∧ (∀ m, s.haltPresentation.laneAt m = s.laneAt m) ∧
    s.haltPresentation.frame = s.frame ∧ s.haltPresentation.frameMemory = s.frameMemory ∧
    s.haltPresentation.pending = s.pending := by
  simp [State.haltPresentation]

/-! ### The four blocks of one handling -/

@[simp] theorem State.deliver_frame (l : List GivenAnswer) :
    (State.deliver l s).host = s.host ∧ (State.deliver l s).part = s.part ∧ (State.deliver l s).isRunning =
    s.isRunning ∧ (State.deliver l s).intake = s.intake ∧ (∀ q, (State.deliver l s).ring q = s.ring q) ∧
    (State.deliver l s).report = s.report ∧ (State.deliver l s).sync = s.sync ∧ (State.deliver l s).glyph =
    s.glyph ∧ (State.deliver l s).surfaces = s.surfaces ∧ (State.deliver l s).raster = s.raster ∧
    (State.deliver l s).lane = s.lane ∧ (∀ m, (State.deliver l s).laneAt m = s.laneAt m) ∧ (State.deliver l
    s).presentation = s.presentation ∧ (State.deliver l s).frame = s.frame ∧ (State.deliver l s).frameMemory
    = s.frameMemory ∧ (State.deliver l s).pending = s.pending := by
  induction l generalizing s with
  | nil => simp [State.deliver]
  | cons x xs ih => unfold State.deliver; split <;> simp [ih]

@[simp] theorem State.putBlocks_frame (b : Blocks) :
    (s.putBlocks b).host = s.host ∧ (s.putBlocks b).part = s.part ∧ (s.putBlocks b).isRunning = s.isRunning
    ∧ (s.putBlocks b).intake = s.intake ∧ (∀ q, (s.putBlocks b).ring q = s.ring q) ∧ (s.putBlocks b).report
    = s.report ∧ (s.putBlocks b).sync = s.sync ∧ (s.putBlocks b).presentation = s.presentation ∧
    (s.putBlocks b).frame = s.frame ∧ (s.putBlocks b).frameMemory = s.frameMemory ∧ (s.putBlocks b).pending
    = s.pending := by
  simp [State.putBlocks]

@[simp] theorem State.runBlocks_frame (f : Blocks → Blocks × List Task) :
    (s.runBlocks f).host = s.host ∧ (s.runBlocks f).part = s.part ∧ (s.runBlocks f).isRunning = s.isRunning
    ∧ (s.runBlocks f).intake = s.intake ∧ (∀ q, (s.runBlocks f).ring q = s.ring q) ∧ (s.runBlocks f).report
    = s.report ∧ (s.runBlocks f).sync = s.sync ∧ (s.runBlocks f).presentation = s.presentation ∧
    (s.runBlocks f).frame = s.frame ∧ (s.runBlocks f).frameMemory = s.frameMemory ∧ (s.runBlocks f).pending
    = s.pending := by
  simp [State.runBlocks]

@[simp] theorem State.haltGlyph_frame :
    s.haltGlyph.host = s.host ∧ s.haltGlyph.part = s.part ∧ s.haltGlyph.isRunning = s.isRunning ∧
    s.haltGlyph.intake = s.intake ∧ (∀ q, s.haltGlyph.ring q = s.ring q) ∧ s.haltGlyph.report = s.report ∧
    s.haltGlyph.sync = s.sync ∧ s.haltGlyph.surfaces = s.surfaces ∧ s.haltGlyph.raster = s.raster ∧
    s.haltGlyph.lane = s.lane ∧ (∀ m, s.haltGlyph.laneAt m = s.laneAt m) ∧ s.haltGlyph.presentation =
    s.presentation ∧ s.haltGlyph.frame = s.frame ∧ s.haltGlyph.frameMemory = s.frameMemory ∧
    s.haltGlyph.pending = s.pending := by
  simp [State.haltGlyph]

@[simp] theorem State.haltRaster_frame :
    s.haltRaster.host = s.host ∧ s.haltRaster.part = s.part ∧ s.haltRaster.isRunning = s.isRunning ∧
    s.haltRaster.intake = s.intake ∧ (∀ q, s.haltRaster.ring q = s.ring q) ∧ s.haltRaster.report = s.report
    ∧ s.haltRaster.sync = s.sync ∧ s.haltRaster.presentation = s.presentation ∧ s.haltRaster.frame = s.frame
    ∧ s.haltRaster.frameMemory = s.frameMemory ∧ s.haltRaster.pending = s.pending := by
  simp [State.haltRaster]

@[simp] theorem State.haltLane_frame :
    s.haltLane.host = s.host ∧ s.haltLane.part = s.part ∧ s.haltLane.isRunning = s.isRunning ∧
    s.haltLane.intake = s.intake ∧ (∀ q, s.haltLane.ring q = s.ring q) ∧ s.haltLane.report = s.report ∧
    s.haltLane.sync = s.sync ∧ s.haltLane.presentation = s.presentation ∧ s.haltLane.frame = s.frame ∧
    s.haltLane.frameMemory = s.frameMemory ∧ s.haltLane.pending = s.pending := by
  simp [State.haltLane]

@[simp] theorem State.takeHalts_frame :
    s.takeHalts.host = s.host ∧ s.takeHalts.part = s.part ∧ s.takeHalts.isRunning = s.isRunning ∧
    s.takeHalts.intake = s.intake ∧ (∀ q, s.takeHalts.ring q = s.ring q) ∧ s.takeHalts.report = s.report ∧
    s.takeHalts.sync = s.sync ∧ s.takeHalts.presentation = s.presentation ∧ s.takeHalts.frame = s.frame ∧
    s.takeHalts.frameMemory = s.frameMemory ∧ s.takeHalts.pending = s.pending := by
  unfold State.takeHalts
  try dsimp only
  (repeat' split) <;> simp

@[simp] theorem State.quiesce_frame :
    s.quiesce.host = s.host ∧ s.quiesce.part = s.part ∧ s.quiesce.isRunning = s.isRunning ∧ s.quiesce.intake
    = s.intake ∧ (∀ q, s.quiesce.ring q = s.ring q) ∧ s.quiesce.report = s.report ∧ s.quiesce.sync = s.sync
    ∧ s.quiesce.presentation = s.presentation ∧ s.quiesce.frame = s.frame ∧ s.quiesce.frameMemory =
    s.frameMemory ∧ s.quiesce.pending = s.pending := by
  unfold State.quiesce
  try dsimp only
  (repeat' split) <;> simp

@[simp] theorem State.setSurface_frame (n : SurfaceId) (k : Surface) :
    (s.setSurface n k).host = s.host ∧ (s.setSurface n k).part = s.part ∧ (s.setSurface n k).isRunning =
    s.isRunning ∧ (s.setSurface n k).intake = s.intake ∧ (∀ q, (s.setSurface n k).ring q = s.ring q) ∧
    (s.setSurface n k).report = s.report ∧ (s.setSurface n k).sync = s.sync ∧ (s.setSurface n k).glyph =
    s.glyph ∧ (s.setSurface n k).raster = s.raster ∧ (s.setSurface n k).lane = s.lane ∧ (∀ m, (s.setSurface
    n k).laneAt m = s.laneAt m) ∧ (s.setSurface n k).presentation = s.presentation ∧ (s.setSurface n
    k).frame = s.frame ∧ (s.setSurface n k).frameMemory = s.frameMemory ∧ (s.setSurface n k).transit =
    s.transit ∧ (∀ q, (s.setSurface n k).handedOver q = s.handedOver q) ∧ (s.setSurface n k).pending =
    s.pending := by
  simp [State.setSurface]

/-! ### Motion of lanes -/

@[simp] theorem State.sendSignal_frame (k : Lane) :
    (s.sendSignal k).host = s.host ∧ (s.sendSignal k).part = s.part ∧ (s.sendSignal k).isRunning =
    s.isRunning ∧ (s.sendSignal k).intake = s.intake ∧ (∀ q, (s.sendSignal k).ring q = s.ring q) ∧
    (s.sendSignal k).report = s.report ∧ (s.sendSignal k).sync = s.sync ∧ (s.sendSignal k).glyph = s.glyph ∧
    (s.sendSignal k).surfaces = s.surfaces ∧ (s.sendSignal k).raster = s.raster ∧ (s.sendSignal k).lane =
    s.lane ∧ (∀ m, (s.sendSignal k).laneAt m = s.laneAt m) ∧ (s.sendSignal k).presentation = s.presentation
    ∧ (s.sendSignal k).frame = s.frame ∧ (s.sendSignal k).frameMemory = s.frameMemory ∧ (s.sendSignal
    k).pending = s.pending := by
  unfold State.sendSignal
  try dsimp only
  (repeat' split) <;> simp

@[simp] theorem State.laneEvent_frame (l : LaneId) (isDone : Bool) :
    (s.laneEvent l isDone).host = s.host ∧ (s.laneEvent l isDone).part = s.part ∧ (s.laneEvent l
    isDone).isRunning = s.isRunning ∧ (s.laneEvent l isDone).intake = s.intake ∧ (∀ q, (s.laneEvent l
    isDone).ring q = s.ring q) ∧ (s.laneEvent l isDone).sync = s.sync ∧ (s.laneEvent l isDone).glyph =
    s.glyph ∧ (s.laneEvent l isDone).surfaces = s.surfaces ∧ (s.laneEvent l isDone).raster = s.raster ∧
    (s.laneEvent l isDone).presentation = s.presentation ∧ (s.laneEvent l isDone).frame = s.frame ∧
    (s.laneEvent l isDone).frameMemory = s.frameMemory ∧ (s.laneEvent l isDone).pending = s.pending := by
  unfold State.laneEvent
  try dsimp only
  (repeat' split) <;> simp

@[simp] theorem State.completePass_frame (l : LaneId) :
    (s.completePass l).host = s.host ∧ (s.completePass l).part = s.part ∧ (s.completePass l).isRunning =
    s.isRunning ∧ (s.completePass l).intake = s.intake ∧ (∀ q, (s.completePass l).ring q = s.ring q) ∧
    (s.completePass l).sync = s.sync ∧ (s.completePass l).glyph = s.glyph ∧ (s.completePass l).surfaces =
    s.surfaces ∧ (s.completePass l).raster = s.raster ∧ (s.completePass l).presentation = s.presentation ∧
    (s.completePass l).frame = s.frame ∧ (s.completePass l).frameMemory = s.frameMemory ∧ (s.completePass
    l).pending = s.pending := by
  unfold State.completePass
  try dsimp only
  (repeat' split) <;> simp

@[simp] theorem State.arrive_frame (l : LaneId) (offset : Nat) :
    (s.arrive l offset).host = s.host ∧ (s.arrive l offset).part = s.part ∧ (s.arrive l offset).isRunning =
    s.isRunning ∧ (s.arrive l offset).intake = s.intake ∧ (∀ q, (s.arrive l offset).ring q = s.ring q) ∧
    (s.arrive l offset).sync = s.sync ∧ (s.arrive l offset).glyph = s.glyph ∧ (s.arrive l offset).surfaces =
    s.surfaces ∧ (s.arrive l offset).raster = s.raster ∧ (s.arrive l offset).presentation = s.presentation ∧
    (s.arrive l offset).frame = s.frame ∧ (s.arrive l offset).frameMemory = s.frameMemory ∧ (s.arrive l
    offset).pending = s.pending := by
  unfold State.arrive
  try dsimp only
  (repeat' split) <;> simp

@[simp] theorem State.marqueeStep_frame (l : LaneId) :
    (s.marqueeStep l).host = s.host ∧ (s.marqueeStep l).part = s.part ∧ (s.marqueeStep l).isRunning =
    s.isRunning ∧ (s.marqueeStep l).intake = s.intake ∧ (∀ q, (s.marqueeStep l).ring q = s.ring q) ∧
    (s.marqueeStep l).sync = s.sync ∧ (s.marqueeStep l).glyph = s.glyph ∧ (s.marqueeStep l).surfaces =
    s.surfaces ∧ (s.marqueeStep l).raster = s.raster ∧ (s.marqueeStep l).presentation = s.presentation ∧
    (s.marqueeStep l).frame = s.frame ∧ (s.marqueeStep l).frameMemory = s.frameMemory ∧ (s.marqueeStep
    l).pending = s.pending := by
  simp [State.marqueeStep]

@[simp] theorem State.stepJump_frame (l : LaneId) :
    (s.stepJump l).host = s.host ∧ (s.stepJump l).part = s.part ∧ (s.stepJump l).isRunning = s.isRunning ∧
    (s.stepJump l).intake = s.intake ∧ (∀ q, (s.stepJump l).ring q = s.ring q) ∧ (s.stepJump l).sync =
    s.sync ∧ (s.stepJump l).glyph = s.glyph ∧ (s.stepJump l).surfaces = s.surfaces ∧ (s.stepJump l).raster =
    s.raster ∧ (s.stepJump l).presentation = s.presentation ∧ (s.stepJump l).frame = s.frame ∧ (s.stepJump
    l).frameMemory = s.frameMemory ∧ (s.stepJump l).pending = s.pending := by
  simp [State.stepJump]

@[simp] theorem State.stepLane_frame (l : LaneId) :
    (s.stepLane l).host = s.host ∧ (s.stepLane l).part = s.part ∧ (s.stepLane l).isRunning = s.isRunning ∧
    (s.stepLane l).intake = s.intake ∧ (∀ q, (s.stepLane l).ring q = s.ring q) ∧ (s.stepLane l).sync =
    s.sync ∧ (s.stepLane l).glyph = s.glyph ∧ (s.stepLane l).surfaces = s.surfaces ∧ (s.stepLane l).raster =
    s.raster ∧ (s.stepLane l).presentation = s.presentation ∧ (s.stepLane l).frame = s.frame ∧ (s.stepLane
    l).frameMemory = s.frameMemory ∧ (s.stepLane l).pending = s.pending := by
  unfold State.stepLane
  try dsimp only
  (repeat' split) <;> simp

@[simp] theorem State.moveLane_frame (l : LaneId) :
    (s.moveLane l).host = s.host ∧ (s.moveLane l).part = s.part ∧ (s.moveLane l).isRunning = s.isRunning ∧
    (s.moveLane l).intake = s.intake ∧ (∀ q, (s.moveLane l).ring q = s.ring q) ∧ (s.moveLane l).sync =
    s.sync ∧ (s.moveLane l).glyph = s.glyph ∧ (s.moveLane l).surfaces = s.surfaces ∧ (s.moveLane l).raster =
    s.raster ∧ (s.moveLane l).presentation = s.presentation ∧ (s.moveLane l).frame = s.frame ∧ (s.moveLane
    l).frameMemory = s.frameMemory ∧ (s.moveLane l).pending = s.pending := by
  unfold State.moveLane
  try dsimp only
  (repeat' split) <;> simp

@[simp] theorem State.moveLanes_frame (l : List LaneId) :
    (State.moveLanes l s).host = s.host ∧ (State.moveLanes l s).part = s.part ∧ (State.moveLanes l
    s).isRunning = s.isRunning ∧ (State.moveLanes l s).intake = s.intake ∧ (∀ q, (State.moveLanes l s).ring
    q = s.ring q) ∧ (State.moveLanes l s).sync = s.sync ∧ (State.moveLanes l s).glyph = s.glyph ∧
    (State.moveLanes l s).surfaces = s.surfaces ∧ (State.moveLanes l s).raster = s.raster ∧ (State.moveLanes
    l s).presentation = s.presentation ∧ (State.moveLanes l s).frame = s.frame ∧ (State.moveLanes l
    s).frameMemory = s.frameMemory ∧ (State.moveLanes l s).pending = s.pending := by
  induction l generalizing s with
  | nil => simp [State.moveLanes]
  | cons x xs ih => simp [State.moveLanes, ih]

@[simp] theorem State.laneFrame_frame (n : FrameNotice) :
    (s.laneFrame n).host = s.host ∧ (s.laneFrame n).part = s.part ∧ (s.laneFrame n).isRunning = s.isRunning
    ∧ (s.laneFrame n).intake = s.intake ∧ (∀ q, (s.laneFrame n).ring q = s.ring q) ∧ (s.laneFrame n).sync =
    s.sync ∧ (s.laneFrame n).glyph = s.glyph ∧ (s.laneFrame n).surfaces = s.surfaces ∧ (s.laneFrame
    n).raster = s.raster ∧ (s.laneFrame n).presentation = s.presentation ∧ (s.laneFrame n).frameMemory =
    s.frameMemory ∧ (s.laneFrame n).pending = s.pending := by
  simp [State.laneFrame]

end Sys2Proof.Machine
end

