-- ==== Sys2Proof/Laws/Memory.lean ====
section
/-! SUPPORT. Frame memory: a write keeps the canonical form, a read after a write to the same address gives the
byte written, and a write leaves every other address alone. -/

namespace Sys2Proof.Machine

/-- Every listed address is above `a`. -/
def cellsAbove (a : Nat) (l : List Host.Cell) : Prop := ∀ c ∈ l, a < c.1

theorem cellsCanonical_cons (k : Nat) (v : Byte) (l : List Host.Cell) :
    cellsCanonical ((k, v) :: l) = true ↔
      v ≠ Config.frameMemoryFill ∧ cellsAbove k l ∧ cellsCanonical l = true := by
  induction l generalizing k v with
  | nil => simp [cellsCanonical, cellsAbove]
  | cons c rest ih =>
    obtain ⟨k', v'⟩ := c
    simp only [cellsCanonical, Bool.and_eq_true, decide_eq_true_eq, bne_iff_ne, ih, cellsAbove,
      List.forall_mem_cons]
    constructor
    · rintro ⟨⟨h1, h2⟩, h3, h4, h5⟩
      exact ⟨h2, ⟨h1, fun c hc => Nat.lt_trans h1 (h4 c hc)⟩, h3, h4, h5⟩
    · rintro ⟨h2, ⟨h1, _⟩, h3, h4, h5⟩
      exact ⟨⟨h1, h2⟩, h3, h4, h5⟩

theorem cellsAbove_writeCells {k a : Nat} {b : Byte} {l : List Host.Cell} (h : cellsAbove k l) (ha : k < a) :
    cellsAbove k (writeCells a b l) := by
  induction l with
  | nil =>
    simp only [writeCells]
    split
    · simp [cellsAbove]
    · simpa [cellsAbove] using ha
  | cons c rest ih =>
    obtain ⟨k', v'⟩ := c
    simp only [cellsAbove, List.forall_mem_cons] at h
    have h' : cellsAbove k rest := h.2
    simp only [writeCells]
    split
    · split
      · simpa [cellsAbove] using h
      · simp only [cellsAbove, List.forall_mem_cons]; exact ⟨ha, h.1, h.2⟩
    · split
      · split
        · exact h'
        · simp only [cellsAbove, List.forall_mem_cons]; exact ⟨ha, h.2⟩
      · simp only [cellsAbove, List.forall_mem_cons]; exact ⟨h.1, ih h'⟩

/-- A write keeps the canonical form of a list of cells. -/
theorem writeCells_canonical {a : Nat} {b : Byte} {l : List Host.Cell} (h : cellsCanonical l = true) :
    cellsCanonical (writeCells a b l) = true := by
  induction l with
  | nil =>
    simp only [writeCells]
    split
    · rfl
    · simpa [cellsCanonical] using ‹_›
  | cons c rest ih =>
    obtain ⟨k, v⟩ := c
    have h0 := (cellsCanonical_cons k v rest).1 h
    simp only [writeCells]
    split
    · rename_i hlt
      split
      · exact h
      · rw [cellsCanonical_cons]
        refine ⟨‹_›, ?_, h⟩
        simp only [cellsAbove, List.forall_mem_cons]
        exact ⟨hlt, fun c hc => Nat.lt_trans hlt (h0.2.1 c hc)⟩
    · split
      · rename_i heq
        split
        · exact h0.2.2
        · rw [cellsCanonical_cons]
          exact ⟨‹_›, by subst heq; exact h0.2.1, h0.2.2⟩
      · rw [cellsCanonical_cons]
        exact ⟨h0.1, cellsAbove_writeCells h0.2.1 (by omega), ih h0.2.2⟩

theorem readCells_above {a : Nat} {l : List Host.Cell} (h : cellsAbove a l) :
    readCells a l = Config.frameMemoryFill := by
  induction l with
  | nil => rfl
  | cons c rest ih =>
    obtain ⟨k, v⟩ := c
    simp only [cellsAbove, List.forall_mem_cons] at h
    simp only [readCells]
    rw [if_neg (by have := h.1; omega)]
    exact ih h.2

/-- What a read gives after a write to a canonical list of cells. -/
theorem readCells_writeCells {a c : Nat} {b : Byte} {l : List Host.Cell} (h : cellsCanonical l = true) :
    readCells c (writeCells a b l) = if c = a then b else readCells c l := by
  induction l with
  | nil =>
    simp only [writeCells]
    split
    · rename_i hb; simp only [readCells]; split <;> simp_all
    · simp only [readCells]; split <;> split <;> simp_all
  | cons x rest ih =>
    obtain ⟨k, v⟩ := x
    have h0 := (cellsCanonical_cons k v rest).1 h
    simp only [writeCells]
    split
    · rename_i hlt
      have above : cellsAbove a ((k, v) :: rest) := by
        simp only [cellsAbove, List.forall_mem_cons]
        exact ⟨hlt, fun c hc => Nat.lt_trans hlt (h0.2.1 c hc)⟩
      split
      · rename_i hb
        split
        · rename_i hc; subst hc; rw [readCells_above above, hb]
        · rfl
      · conv_lhs => unfold readCells
        by_cases hc : a = c
        · simp [hc]
        · rw [if_neg hc, if_neg (fun e => hc e.symm)]
    · split
      · rename_i heq
        subst heq
        split
        · rename_i hb
          split
          · rename_i hc; subst hc; rw [readCells_above h0.2.1, hb]
          · rename_i hc; simp only [readCells]; rw [if_neg (fun e => hc e.symm)]
        · by_cases hc : a = c
          · simp [readCells, hc]
          · simp only [readCells, if_neg hc]; rw [if_neg (fun e => hc e.symm)]
      · simp only [readCells]
        split
        · rename_i hk; subst hk; rw [if_neg (by omega)]
        · exact ih h0.2.2

/-- A write keeps frame memory in canonical form. -/
theorem Memory.write_wf {m : Memory} (a : Nat) (b : Byte) (h : m.wf = true) : (m.write a b).wf = true :=
  writeCells_canonical h

/-- What a read of frame memory gives after a write. -/
theorem Memory.read_write {m : Memory} (a c : Nat) (b : Byte) (h : m.wf = true) :
    (m.write a b).read c = if c = a then b else m.read c := readCells_writeCells h

/-- The frame memory of the reset state is in canonical form. -/
theorem State.reset_memory_wf : State.reset.frameMemory.wf = true := rfl

end Sys2Proof.Machine
end

