-- ==== Sys2Proof/Laws/Messages.lean ====
section
/-! SUPPORT. All that the answers of owners do: each of the operations that answers entries writes the answers of
the rings that still await one, and nothing else. -/

namespace Sys2Proof.Machine

/-- An owner's answer reaches its ring where the entry is still in service, and does nothing else. -/
theorem State.giveAnswer_spec (s : State) (r : RingId) (a : Answer) :
    ∃ v, s.giveAnswer r a = s.withTransit { s.transit with answers := v } ∧
      ∀ q : RingId, v[q.1] =
        if q = r ∧ (s.ring r).awaitsAnswer = true then some a else s.transit.answers[q.1] := by
  unfold State.giveAnswer
  split
  · rename_i h
    exact ⟨_, rfl, fun q => by simp [update_get, h]⟩
  · rename_i h
    exact ⟨s.transit.answers, rfl, fun q => by simp [h]⟩

theorem State.giveAnswer_of_awaits {s : State} {r : RingId} (h : (s.ring r).awaitsAnswer = true) (a : Answer) :
    s.giveAnswer r a = s.withTransit { s.transit with answers := update s.transit.answers r (some a) } := by
  simp [State.giveAnswer, h]

/-- The answers to several rings reach those that still await one, and do nothing else. -/
theorem State.answerRings_spec (a : Answer) (l : List RingId) (s : State) :
    ∃ v, State.answerRings a l s = s.withTransit { s.transit with answers := v } ∧
      ∀ q : RingId, v[q.1] =
        if q ∈ l ∧ (s.ring q).awaitsAnswer = true then some a else s.transit.answers[q.1] := by
  induction l generalizing s with
  | nil => exact ⟨s.transit.answers, rfl, fun q => by simp⟩
  | cons r rs ih =>
    obtain ⟨v, hv, hv'⟩ := s.giveAnswer_spec r a
    obtain ⟨w, hw, hw'⟩ := ih (s.giveAnswer r a)
    refine ⟨w, by rw [State.answerRings, hw, hv]; simp, fun q => ?_⟩
    rw [hw', hv]
    simp only [State.withTransit_ring, State.withTransit_transit, hv', List.mem_cons]
    by_cases h1 : q = r
    · subst h1; by_cases h2 : (s.ring q).awaitsAnswer = true <;> simp [h2]
    · simp [h1]

/-- The answer of an ended entry of the Glyph Table reaches its ring like any other, and takes its place in the
order of those answers (R5). -/
theorem State.giveGlyphAnswer_of_awaits {s : State} {r : RingId} (h : (s.ring r).awaitsAnswer = true) (a : Answer) :
    s.giveGlyphAnswer r a = s.withTransit { s.transit with
      answers := update s.transit.answers r (some a), glyphAnswers := s.transit.glyphAnswers ++ [r] } := by
  simp [State.giveGlyphAnswer, h]

/-- The answers of a handling change the answers and the order of the Glyph Table's answers alone: the rings of
its ended entries that still await an answer join that order, oldest first (R5). -/
theorem State.deliver_spec (l : List GivenAnswer) (s : State) :
    ∃ v, State.deliver l s = s.withTransit { s.transit with
        answers := v, glyphAnswers := s.transit.glyphAnswers ++
          (l.filter fun x => x.ended && (s.ring x.ring).awaitsAnswer).map GivenAnswer.ring } ∧
      ∀ q : RingId, (∀ x ∈ l, x.ring ≠ q) → v[q.1] = s.transit.answers[q.1] := by
  induction l generalizing s with
  | nil => exact ⟨s.transit.answers, by simp [State.deliver], fun q _ => rfl⟩
  | cons x rest ih =>
    obtain ⟨r, a, e⟩ := x
    unfold State.deliver
    dsimp only
    have other {v : Vector (Option Answer) 4} {q : RingId}
        (hv : v = if (s.ring r).awaitsAnswer then update s.transit.answers r (some a) else s.transit.answers)
        (hq : ∀ x ∈ GivenAnswer.mk r a e :: rest, x.ring ≠ q) : v[q.1] = s.transit.answers[q.1] := by
      subst hv
      split
      · exact update_ne _ _ fun h => hq _ (List.mem_cons_self ..) h.symm
      · rfl
    cases e <;> by_cases h : (s.ring r).awaitsAnswer = true
    all_goals
      simp only [Bool.false_eq_true, if_false, if_true, State.giveAnswer, State.giveGlyphAnswer, h]
      try simp only [Bool.false_eq_true, if_false, if_true]
    · obtain ⟨w, hw, hw'⟩ := ih (s.withTransit { s.transit with answers := update s.transit.answers r (some a) })
      refine ⟨w, by rw [hw]; simp, fun q hq => ?_⟩
      rw [hw' q fun x hx => hq x (List.mem_cons_of_mem _ hx)]
      exact other (by simp [h]) hq
    · obtain ⟨w, hw, hw'⟩ := ih s
      refine ⟨w, by rw [hw]; simp, fun q hq => hw' q fun x hx => hq x (List.mem_cons_of_mem _ hx)⟩
    · obtain ⟨w, hw, hw'⟩ := ih (s.withTransit { s.transit with
        answers := update s.transit.answers r (some a), glyphAnswers := s.transit.glyphAnswers ++ [r] })
      refine ⟨w, by rw [hw]; simp [h], fun q hq => ?_⟩
      rw [hw' q fun x hx => hq x (List.mem_cons_of_mem _ hx)]
      exact other (by simp [h]) hq
    · obtain ⟨w, hw, hw'⟩ := ih s
      refine ⟨w, by rw [hw]; simp [h], fun q hq => hw' q fun x hx => hq x (List.mem_cons_of_mem _ hx)⟩

/-- The one answer of a handling. -/
theorem State.deliver_single (s : State) (r : RingId) (a : Answer) :
    State.deliver [⟨r, a, false⟩] s = s.giveAnswer r a := rfl

/-- The one answer of a handling, where an owned entry of the Glyph Table ended. -/
theorem State.deliver_ended (s : State) (r : RingId) (a : Answer) :
    State.deliver [⟨r, a, true⟩] s = s.giveGlyphAnswer r a := rfl

/-- An entry that waits is taken by the operation that serves it. -/
theorem State.takeEntry_of_waits {s : State} {r : RingId} {e : WorkEntry} (h : s.waitsAt r e) {kind : Kind}
    (hk : e.kind = some kind) {op : Nat → Bool} (ho : op e.operation = true)
    (serve : WorkEntry → State → State) : s.takeEntry r kind op serve = serve e (s.clearHandover r) := by
  simp [State.takeEntry, h.1, hk, ho]

/-- In a RUNNING part an entry that waits at such an owner is taken by the operation that serves it. -/
theorem State.takeRunningEntry_of_waits {s : State} {r : RingId} {e : WorkEntry} (hp : s.part = .running)
    (h : s.waitsAt r e) {kind : Kind} (hk : e.kind = some kind) {op : Nat → Bool} (ho : op e.operation = true)
    (serve : WorkEntry → State → State) :
    s.takeRunningEntry r kind op serve = serve e (s.clearHandover r) := by
  simp [State.takeRunningEntry, State.isRunning, hp, State.takeEntry_of_waits h hk ho]

/-- In any other part nothing is taken. -/
theorem State.takeRunningEntry_of_not_running {s : State} (hp : s.part ≠ .running) (r : RingId) (kind : Kind)
    (op : Nat → Bool) (serve : WorkEntry → State → State) : s.takeRunningEntry r kind op serve = s := by
  simp [State.takeRunningEntry, State.isRunning, hp]

/-- Where no entry waits, nothing is taken. -/
theorem State.takeEntry_of_none {s : State} {r : RingId} (h : s.handedOver r = none) (kind : Kind)
    (op : Nat → Bool) (serve : WorkEntry → State → State) : s.takeEntry r kind op serve = s := by
  simp [State.takeEntry, h]

/-- An entry taken and answered in one handling. -/
theorem State.giveAnswer_clearHandover {s : State} {r : RingId} {e : WorkEntry} (h : s.waitsAt r e) (a : Answer) :
    (s.clearHandover r).giveAnswer r a = s.answered r a := by
  simp [State.giveAnswer, h.2, State.answered, State.clearHandover]

/-- A satisfied waiter leaves the list and is answered; nothing else of the state changes. -/
theorem State.setCounter_spec (s : State) (c : CounterId) (value : Word) :
    ∃ v, s.setCounter c value =
        (s.withSync { s.sync with
          counters := update s.sync.counters c value,
          waiters := s.sync.waiters.filter fun w => !Waiter.satisfied c value w }).withTransit
          { s.transit with answers := v } ∧
      ∀ q : RingId, v[q.1] =
        if (∃ w ∈ s.sync.waiters, w.ring = q ∧ Waiter.satisfied c value w = true) ∧
            (s.ring q).awaitsAnswer = true then some .done
        else s.transit.answers[q.1] := by
  have hc : (s.withSync { s.sync with counters := update s.sync.counters c value }).counter c = value := by
    simp [State.counter]
  unfold State.setCounter State.retest
  rw [hc]
  obtain ⟨v, hv, hv'⟩ := State.answerRings_spec .done
    ((s.sync.waiters.filter (Waiter.satisfied c value)).map Waiter.ring)
    (s.withSync { s.sync with
      counters := update s.sync.counters c value,
      waiters := s.sync.waiters.filter fun w => !Waiter.satisfied c value w })
  refine ⟨v, ?_, fun q => ?_⟩
  · simpa using hv
  · rw [hv']
    have hm : q ∈ (s.sync.waiters.filter (Waiter.satisfied c value)).map Waiter.ring ↔
        ∃ w ∈ s.sync.waiters, w.ring = q ∧ Waiter.satisfied c value w = true := by
      simp only [List.mem_map, List.mem_filter, and_assoc]
      exact ⟨fun ⟨w, h1, h2, h3⟩ => ⟨w, h1, h3, h2⟩, fun ⟨w, h1, h2, h3⟩ => ⟨w, h1, h3, h2⟩⟩
    simp only [State.withSync_transit, State.withSync_ring, hm]

end Sys2Proof.Machine
end

