-- ==== Sys2Proof/Laws/Settle.lean ====
section
/-! SUPPORT. How a handling at the Glyph Table, the Lane Unit or the Raster Engine comes to its end: running tasks
until none is left, the entries that are taken and answered in one handling, the raster-use marks, pins, and the
places a drawing visits. -/

namespace Sys2Proof.Machine

/-- Outside RESETTING nothing is quiesced. -/
theorem State.quiesce_eq {s : State} (h : s.part ≠ .resetting) : s.quiesce = s := by simp [State.quiesce, h]

/-! ## Running tasks -/

@[simp] theorem Blocks.settle_nil (n : Nat) (b : Blocks) : Blocks.settle n [] b = b := by cases n <;> rfl

theorem Blocks.settle_cons (n : Nat) (t : Task) (rest : List Task) (b : Blocks) :
    Blocks.settle (n + 1) (t :: rest) b = Blocks.settle n (rest ++ (b.doTask t).2) (b.doTask t).1 := rfl

/-- The handling limit is not 0, so a task that is left is done. -/
theorem handlingLimit_eq : Config.handlingLimit = 1048575 + 1 := rfl

/-- A handling that leaves no task. -/
theorem State.runBlocks_nil {s : State} {f : Blocks → Blocks × List Task} {b : Blocks} (h : f s.blocks = (b, [])) :
    s.runBlocks f = s.putBlocks b := by
  simp [State.runBlocks, h]

/-- A Lane Unit that is busy, or has no entry waiting, takes none. -/
theorem Blocks.settle_laneTake (n : Nat) {b : Blocks} (h : b.lane.service ≠ none ∨ b.lane.entries = []) :
    Blocks.settle (n + 1) [.laneTake] b = b := by
  have : b.takeLane = (b, []) := by
    unfold Blocks.takeLane
    cases h1 : b.lane.service <;> cases h2 : b.lane.entries <;> simp_all
  simp [Blocks.settle_cons, Blocks.doTask, this]

/-- A Raster Engine without claims takes none. -/
theorem Blocks.settle_rasterTake (n : Nat) {b : Blocks} (h : b.raster.claims = []) :
    Blocks.settle (n + 1) [.rasterTake] b = b := by
  have : b.takeClaim = (b, []) := by
    unfold Blocks.takeClaim Blocks.chosenClaim
    rw [h]; cases b.raster.service <;> rfl
  simp [Blocks.settle_cons, Blocks.doTask, this]

/-- A Glyph Table that is busy, or has no entry waiting, takes none. -/
theorem Blocks.settle_glyphTake (n : Nat) {b : Blocks} (h : b.glyph.service ≠ none ∨ b.glyph.entries = []) :
    Blocks.settle (n + 1) [.glyphTake] b = b := by
  have : b.takeGlyph = (b, []) := by
    unfold Blocks.takeGlyph
    cases h1 : b.glyph.service <;> cases h2 : b.glyph.entries <;> simp_all
  simp [Blocks.settle_cons, Blocks.doTask, this]

/-- A handling that answers a lane entry and finds no other entry waiting. -/
theorem State.runBlocks_laneAnswer {s : State} {f : Blocks → Blocks × List Task} {b : Blocks} {r : RingId}
    {a : Answer} (h : f s.blocks = b.laneAnswer r a) (h' : b.lane.service ≠ none ∨ b.lane.entries = []) :
    s.runBlocks f = s.putBlocks (b.answer r a) := by
  unfold State.runBlocks Blocks.laneAnswer at *
  rw [h]
  dsimp only
  rw [handlingLimit_eq, Blocks.settle_laneTake _ (by simpa [Blocks.answer] using h')]

/-! ## Entries taken and answered in one handling -/

/-- The blocks left by a handling that took the entry of ring `r` and answered it. -/
theorem State.putBlocks_answer {s : State} {r : RingId} {e : WorkEntry} (hw : s.waitsAt r e) (b : Blocks)
    (ho : b.outbox = []) (a : Answer) : (s.clearHandover r).putBlocks (b.answer r a) =
      ((((s.withGlyph b.glyph).withLane b.lane).withRaster b.raster).withSurfaces b.surfaces).answered r a := by
  unfold State.putBlocks
  simp only [Blocks.answer, ho, List.nil_append, State.deliver_single]
  simp [State.giveAnswer, State.answered, State.clearHandover, hw.2]

/-- A lane entry that reaches a free Lane Unit is served at once. -/
theorem State.takeLaneEntry_served {s : State} {r : RingId} {e : WorkEntry} {kind : Kind} {op : Nat → Bool}
    (hp : s.part ≠ .resetting) (hw : s.waitsAt r e) (hk : e.kind = some kind) (ho : op e.operation = true)
    (hf : s.lane.service = none) :
    s.takeLaneEntry r kind op = (s.clearHandover r).runBlocks (fun b => b.serveLane r e) := by
  unfold State.takeLaneEntry State.takeBlocksEntry
  rw [State.quiesce_eq hp, State.takeEntry_of_waits hw hk ho]
  unfold State.runBlocks
  have : (s.clearHandover r).blocks.arriveLane r e = (s.clearHandover r).blocks.serveLane r e := by
    unfold Blocks.arriveLane
    rw [if_pos]
    simp [State.blocks, hf]
  dsimp only
  rw [this]

/-- In a RUNNING part a raster entry that waits is lodged as a claim. -/
theorem State.takeRasterEntry_of_waits {s : State} {r : RingId} {e : WorkEntry} {kind : Kind}
    (hp : s.part = .running) (hw : s.waitsAt r e) (hk : e.kind = some kind) :
    s.takeRasterEntry r kind =
      (s.clearHandover r).runBlocks fun b => b.lodgeClaim ⟨r, (s.ring r).cls, e⟩ := by
  unfold State.takeRasterEntry State.takeBlocksEntry
  rw [if_pos (by simp [State.isRunning, hp]), State.quiesce_eq (by simp [hp]),
    State.takeEntry_of_waits hw hk rfl]

/-- No claim reaches the engine in any other part state (R128). -/
theorem State.takeRasterEntry_of_not_running {s : State} (hp : s.part ≠ .running) (r : RingId) (kind : Kind) :
    s.takeRasterEntry r kind = s.quiesce := by
  unfold State.takeRasterEntry
  rw [if_neg (by simp [State.isRunning, hp])]

/-- A lane entry that is served and answered in one handling, whatever it makes of the Glyph Table and the lanes. -/
theorem State.takeLaneEntry_answered {s : State} {r : RingId} {e : WorkEntry} {kind : Kind} {op : Nat → Bool}
    (hp : s.part ≠ .resetting) (hw : s.waitsAt r e) (hk : e.kind = some kind) (ho : op e.operation = true)
    (hf : s.laneFree) (g : GlyphTable) (l : LaneUnit) (a : Answer)
    (h : s.blocks.serveLane r e = ({ s.blocks with glyph := g, lane := l } : Blocks).laneAnswer r a)
    (hl : l.entries = []) : s.takeLaneEntry r kind op = ((s.withGlyph g).withLane l).answered r a := by
  rw [State.takeLaneEntry_served hp hw hk ho hf.1,
    State.runBlocks_laneAnswer (b := { s.blocks with glyph := g, lane := l }) h (.inr hl),
    State.putBlocks_answer hw _ rfl]
  rfl

/-- A lane entry that fails one of its checks. -/
theorem State.takeLaneEntry_fails {s : State} {r : RingId} {e : WorkEntry} {kind : Kind} {op : Nat → Bool}
    (hp : s.part ≠ .resetting) (hw : s.waitsAt r e) (hk : e.kind = some kind) (ho : op e.operation = true)
    (hf : s.laneFree) {status : Status} (h : s.blocks.serveLane r e = s.blocks.laneAnswer r (.failed status)) :
    s.takeLaneEntry r kind op = s.answered r (.failed status) := by
  rw [State.takeLaneEntry_answered hp hw hk ho hf s.glyph s.lane _ h hf.2]
  rfl

/-! ## The lane an entry names -/

theorem Blocks.checkLane_outside {b : Blocks} {n : Nat} (h : 8 ≤ n) : b.checkLane n = .error .badOperand := by
  unfold Blocks.checkLane recordNumber
  rw [dif_neg (by omega)]

theorem Blocks.checkLane_unset {b : Blocks} {n : Nat} (l : LaneId) (h : n = l.1)
    (hu : (b.laneAt l).state = .unset) : b.checkLane n = .error .notSet := by
  subst h
  unfold Blocks.checkLane recordNumber
  rw [dif_pos l.2]
  simp [hu]

theorem Blocks.checkLane_set {b : Blocks} {n : Nat} (l : LaneId) (h : n = l.1)
    (hs : (b.laneAt l).state = .set) : b.checkLane n = .ok l := by
  subst h
  unfold Blocks.checkLane recordNumber
  rw [dif_pos l.2]
  simp [hs]

/-! ## Raster-use marks -/

/-- Setting or clearing the marks of two named surfaces changes those marks and nothing else. -/
theorem Blocks.setMark_spec (b : Blocks) (x y : Option SurfaceId) (m : Bool) :
    ∃ v : Vector Surface 16, (b.setMark x m).setMark y m = { b with surfaces := v } ∧
      ∀ n : SurfaceId, v[n.1] =
        { b.surfaces[n.1] with mark := if x = some n ∨ y = some n then m else b.surfaces[n.1].mark } := by
  have one (b : Blocks) (x : Option SurfaceId) :
      ∃ v : Vector Surface 16, b.setMark x m = { b with surfaces := v } ∧
        ∀ n : SurfaceId, v[n.1] =
          { b.surfaces[n.1] with mark := if x = some n then m else b.surfaces[n.1].mark } := by
    cases x with
    | none => exact ⟨b.surfaces, rfl, fun n => by simp⟩
    | some i =>
      refine ⟨_, rfl, fun n => ?_⟩
      by_cases h : n = i
      · subst h; simp
      · simp only [update_get, h, if_false, Option.some.injEq]
        rw [if_neg fun h' => h h'.symm]
  obtain ⟨v, h1, h2⟩ := one b x
  obtain ⟨w, h3, h4⟩ := one { b with surfaces := v } y
  refine ⟨w, by rw [h1, h3], fun n => ?_⟩
  rw [h4 n]
  simp only [h2 n]
  by_cases hx : x = some n <;> by_cases hy : y = some n <;> simp [hx, hy]

/-! ## Pins -/

/-- Unpinning a list of cells takes from each slot as many pins as the list names it. -/
theorem GlyphTable.unpinAll_pins (slots : List (Option SlotId)) (g : GlyphTable) (n : SlotId) :
    (GlyphTable.unpinAll slots g).slots[n.1].pins = g.slots[n.1].pins - slots.count (some n) := by
  induction slots generalizing g with
  | nil => rfl
  | cons x rest ih =>
    cases x with
    | none => rw [GlyphTable.unpinAll, ih]; simp
    | some m =>
      rw [GlyphTable.unpinAll, ih]
      have : (g.unpin m).slots[n.1].pins = if n = m then g.slots[n.1].pins - 1 else g.slots[n.1].pins := by
        unfold GlyphTable.unpin GlyphTable.setSlot GlyphTable.listLast
        by_cases h : n = m
        · subst h; dsimp only; split <;> simp
        · dsimp only; split <;> simp [update_get, h]
      rw [this]
      by_cases h : n = m
      · subst h; simp; omega
      · simp [h, Ne.symm h]

/-! ## The places a drawing visits -/

/-- The pixels of the rectangle inside the clip are those of the admitted area. -/
theorem mem_admitted (clip : Option Clip) (dx dy : Int) (w h x y : Nat) :
    ((dx ≤ x ∧ x ≤ dx + w - 1) ∧ (dy ≤ y ∧ y ≤ dy + h - 1) ∧
        ∃ c, clip = some c ∧ (c.x0 ≤ x ∧ x ≤ c.x1) ∧ c.y0 ≤ y ∧ y ≤ c.y1) ↔
      ((admitted clip dx dy w h).x0 ≤ x ∧ x < (admitted clip dx dy w h).x0 + (admitted clip dx dy w h).columns) ∧
      ((admitted clip dx dy w h).y0 ≤ y ∧ y < (admitted clip dx dy w h).y0 + (admitted clip dx dy w h).rows) ∧
      0 < (admitted clip dx dy w h).columns ∧ 0 < (admitted clip dx dy w h).rows := by
  cases clip with
  | none => simp [admitted]
  | some c => simp [admitted]; omega

/-- Outside TEXT every admitted pixel takes a transfer. -/
theorem Work.wanted_of_not_text {k : Work} (h : k.args.kind ≠ .text) (bits : Half) (c : Nat) :
    k.wanted bits c = true := by
  unfold Work.wanted
  cases hk : k.args.kind <;> simp_all

/-- Where every pixel takes a transfer, the next pixel of a row is the next place of it. -/
theorem Work.seekColumn_eq {k : Work} {bits : Half} (h : ∀ c, k.wanted bits c = true) (c : Nat) :
    k.seekColumn bits c = if c < k.area.columns then some c else none := by
  unfold Work.seekColumn
  split
  · rename_i hc
    rw [List.find?_range_eq_some]
    refine ⟨by simp [h], by simpa using hc, ?_⟩
    intro j hj
    simp
    omega
  · rename_i hc
    rw [List.find?_eq_none]
    intro x hx
    simp at hx ⊢
    omega

/-- Where every pixel takes a transfer, the first one of the rows that are left begins the first of them. -/
theorem Work.seekRow_eq {k : Work} (h : ∀ bits c, k.wanted bits c = true) (n r : Nat) :
    k.seekRow n r = if 0 < n ∧ 0 < k.area.columns then some (r, 0) else none := by
  induction n generalizing r with
  | zero => simp [Work.seekRow]
  | succ n ih =>
    unfold Work.seekRow
    rw [Work.seekColumn_eq (h _)]
    by_cases hc : 0 < k.area.columns
    · simp [hc]
    · simp [hc, ih]

/-! ## Ring records -/

theorem State.modRing_congr (s : State) (r : RingId) {f g : Ring → Ring} (h : f (s.ring r) = g (s.ring r)) :
    s.modRing r f = s.modRing r g := by
  simp [State.modRing, h]

end Sys2Proof.Machine
end

