-- ==== Sys2Proof/Laws/Safety.lean ====
section
/-! SUPPORT. No command refuses, and RASTER_TRANSFER_END alone can fault, at an address outside frame memory. -/

namespace Sys2Proof.Machine

/-- Every command but RASTER_TRANSFER_END answers a next state, in every state. -/
theorem goesOn_of_not_transfer (c : Instr) (s : State) (h : ∀ read, c ≠ .rasterTransferEnd read) :
    goesOn (exec c s) := by
  cases c <;> first | exact absurd rfl (h _) | exact ⟨_, rfl⟩

/-- RASTER_TRANSFER_END answers a next state where the transfer in flight lies inside frame memory. -/
theorem goesOn_rasterTransferEnd (s : State) (read : ReadEnd) (hp : s.part ≠ .resetting)
    (h : s.transferInside) : goesOn (exec (.rasterTransferEnd read) s) := by
  show goesOn (execRasterTransferEnd read s)
  unfold execRasterTransferEnd
  simp only [State.quiesce_eq hp]
  split
  · rename_i c d _ hd
    split
    · rename_i hx
      exact absurd (h d hd hx.1) (by omega)
    · exact ⟨_, rfl⟩
  · exact ⟨_, rfl⟩

end Sys2Proof.Machine
end

