-- ==== Sys2Proof/Laws/Waits.lean ====
section
/-! SUPPORT. All that ending waits does: which records leave the lists of the Sync Table and which rings are
answered. -/

namespace Sys2Proof.Machine

/-- Timing out a ring's waiters removes its expired waiters and answers the ring if it had one. -/
theorem State.timeOutWaiter_spec (s : State) (r : RingId) :
    ∃ v, s.timeOutWaiter r =
        (s.withSync { s.sync with
          waiters := s.sync.waiters.filter fun w => !(w.ring == r && w.expired) }).withTransit
          { s.transit with answers := v } ∧
      ∀ q : RingId, v[q.1] =
        if q = r ∧ (∃ w ∈ s.sync.waiters, w.ring = q ∧ w.expired = true) ∧
            (s.ring q).awaitsAnswer = true then some (.failed .waitTimeout)
        else s.transit.answers[q.1] := by
  unfold State.timeOutWaiter
  split
  · rename_i h
    simp only [List.any_eq_true, Bool.and_eq_true, beq_iff_eq] at h
    obtain ⟨v, hv, hv'⟩ := (s.withSync { s.sync with
      waiters := s.sync.waiters.filter fun w => !(w.ring == r && w.expired) }).giveAnswer_spec r
        (.failed .waitTimeout)
    refine ⟨v, by simpa using hv, fun q => ?_⟩
    rw [hv']
    by_cases hq : q = r
    · subst hq; simp only [State.withSync_ring, State.withSync_transit, true_and, h]
    · simp [hq]
  · rename_i h
    simp only [List.any_eq_true, Bool.and_eq_true, beq_iff_eq, not_exists, not_and] at h
    refine ⟨s.transit.answers, ?_, fun q => ?_⟩
    · rw [List.filter_eq_self.2]
      · simp
      · intro w hw; simpa [Decidable.imp_iff_not_or] using h w hw
    · rw [if_neg]
      rintro ⟨rfl, ⟨w, h1, h2, h3⟩, _⟩
      exact h w h1 h2 h3

/-- Ending a ring's frame waits removes its expired frame waits and answers the ring if it had one. -/
theorem State.endFrameWait_spec (s : State) (r : RingId) :
    ∃ v, s.endFrameWait r =
        (s.withSync { s.sync with
          frameWaits := s.sync.frameWaits.filter fun w => !(w.ring == r && w.expired) }).withTransit
          { s.transit with answers := v } ∧
      ∀ q : RingId, v[q.1] =
        if q = r ∧ (∃ w ∈ s.sync.frameWaits, w.ring = q ∧ w.expired = true) ∧
            (s.ring q).awaitsAnswer = true then some .done
        else s.transit.answers[q.1] := by
  unfold State.endFrameWait
  split
  · rename_i h
    simp only [List.any_eq_true, Bool.and_eq_true, beq_iff_eq] at h
    obtain ⟨v, hv, hv'⟩ := (s.withSync { s.sync with
      frameWaits := s.sync.frameWaits.filter fun w => !(w.ring == r && w.expired) }).giveAnswer_spec r .done
    refine ⟨v, by simpa using hv, fun q => ?_⟩
    rw [hv']
    by_cases hq : q = r
    · subst hq; simp only [State.withSync_ring, State.withSync_transit, true_and, h]
    · simp [hq]
  · rename_i h
    simp only [List.any_eq_true, Bool.and_eq_true, beq_iff_eq, not_exists, not_and] at h
    refine ⟨s.transit.answers, ?_, fun q => ?_⟩
    · rw [List.filter_eq_self.2]
      · simp
      · intro w hw; simpa [Decidable.imp_iff_not_or] using h w hw
    · rw [if_neg]
      rintro ⟨rfl, ⟨w, h1, h2, h3⟩, _⟩
      exact h w h1 h2 h3

/-- Timing out the waiters of several rings. -/
theorem State.timeOutWaiters_spec (l : List RingId) (s : State) :
    ∃ v, State.timeOutWaiters l s =
        (s.withSync { s.sync with
          waiters := s.sync.waiters.filter fun w => !(l.contains w.ring && w.expired) }).withTransit
          { s.transit with answers := v } ∧
      ∀ q : RingId, v[q.1] =
        if q ∈ l ∧ (∃ w ∈ s.sync.waiters, w.ring = q ∧ w.expired = true) ∧
            (s.ring q).awaitsAnswer = true then some (.failed .waitTimeout)
        else s.transit.answers[q.1] := by
  induction l generalizing s with
  | nil => exact ⟨s.transit.answers, by simp [State.timeOutWaiters], fun q => by simp⟩
  | cons r rs ih =>
    obtain ⟨v, hv, hv'⟩ := s.timeOutWaiter_spec r
    obtain ⟨w, hw, hw'⟩ := ih (s.timeOutWaiter r)
    refine ⟨w, ?_, fun q => ?_⟩
    · rw [State.timeOutWaiters, hw, hv]
      simp only [State.withTransit_sync, State.withSync_sync, List.filter_filter, State.withTransit_withSync,
        State.withSync_withSync, State.withTransit_withTransit, State.withTransit_transit]
      congr 3
      apply List.filter_congr
      intro x _
      simp only [List.contains_cons]
      cases x.expired <;> cases h : x.ring == r <;> simp
    · rw [hw', hv]
      simp only [State.withTransit_sync, State.withSync_sync, State.withTransit_ring, State.withSync_ring,
        State.withTransit_transit, hv', List.mem_cons]
      by_cases hq : q = r
      · subst hq
        by_cases h : (∃ w ∈ s.sync.waiters, w.ring = q ∧ w.expired = true) ∧ (s.ring q).awaitsAnswer = true
        · rw [if_pos (show q = q ∧ _ from ⟨rfl, h⟩), if_pos (show (q = q ∨ q ∈ rs) ∧ _ from ⟨.inl rfl, h⟩)]
          exact ite_self _
        · simp only [true_and, if_neg h, true_or]
          rw [if_neg]
          rintro ⟨_, ⟨w, h1, h2, h3⟩, h4⟩
          exact h ⟨⟨w, (List.mem_filter.1 h1).1, h2, h3⟩, h4⟩
      · simp only [hq, false_and, if_false, false_or]
        congr 1
        apply propext
        constructor
        · rintro ⟨a, ⟨w, h1, h2, h3⟩, h4⟩; exact ⟨a, ⟨w, (List.mem_filter.1 h1).1, h2, h3⟩, h4⟩
        · rintro ⟨a, ⟨w, h1, h2, h3⟩, h4⟩
          exact ⟨a, ⟨w, List.mem_filter.2 ⟨h1, by simp [h2, hq]⟩, h2, h3⟩, h4⟩

/-- Ending the frame waits of several rings. -/
theorem State.endFrameWaits_spec (l : List RingId) (s : State) :
    ∃ v, State.endFrameWaits l s =
        (s.withSync { s.sync with
          frameWaits := s.sync.frameWaits.filter fun w => !(l.contains w.ring && w.expired) }).withTransit
          { s.transit with answers := v } ∧
      ∀ q : RingId, v[q.1] =
        if q ∈ l ∧ (∃ w ∈ s.sync.frameWaits, w.ring = q ∧ w.expired = true) ∧
            (s.ring q).awaitsAnswer = true then some .done
        else s.transit.answers[q.1] := by
  induction l generalizing s with
  | nil => exact ⟨s.transit.answers, by simp [State.endFrameWaits], fun q => by simp⟩
  | cons r rs ih =>
    obtain ⟨v, hv, hv'⟩ := s.endFrameWait_spec r
    obtain ⟨w, hw, hw'⟩ := ih (s.endFrameWait r)
    refine ⟨w, ?_, fun q => ?_⟩
    · rw [State.endFrameWaits, hw, hv]
      simp only [State.withTransit_sync, State.withSync_sync, List.filter_filter, State.withTransit_withSync,
        State.withSync_withSync, State.withTransit_withTransit, State.withTransit_transit]
      congr 3
      apply List.filter_congr
      intro x _
      simp only [List.contains_cons]
      cases x.expired <;> cases h : x.ring == r <;> simp
    · rw [hw', hv]
      simp only [State.withTransit_sync, State.withSync_sync, State.withTransit_ring, State.withSync_ring,
        State.withTransit_transit, hv', List.mem_cons]
      by_cases hq : q = r
      · subst hq
        by_cases h : (∃ w ∈ s.sync.frameWaits, w.ring = q ∧ w.expired = true) ∧
            (s.ring q).awaitsAnswer = true
        · rw [if_pos (show q = q ∧ _ from ⟨rfl, h⟩), if_pos (show (q = q ∨ q ∈ rs) ∧ _ from ⟨.inl rfl, h⟩)]
          exact ite_self _
        · simp only [true_and, if_neg h, true_or]
          rw [if_neg]
          rintro ⟨_, ⟨w, h1, h2, h3⟩, h4⟩
          exact h ⟨⟨w, (List.mem_filter.1 h1).1, h2, h3⟩, h4⟩
      · simp only [hq, false_and, if_false, false_or]
        congr 1
        apply propext
        constructor
        · rintro ⟨a, ⟨w, h1, h2, h3⟩, h4⟩; exact ⟨a, ⟨w, (List.mem_filter.1 h1).1, h2, h3⟩, h4⟩
        · rintro ⟨a, ⟨w, h1, h2, h3⟩, h4⟩
          exact ⟨a, ⟨w, List.mem_filter.2 ⟨h1, by simp [h2, hq]⟩, h2, h3⟩, h4⟩

end Sys2Proof.Machine
end

