-- ==== Sys2Proof/Tests/Slice0.lean ====
section
/-! SUPPORT. Tests: the checks of `WellFormed`, and commands on small states, most of them taken from the worked
examples of the manual (each test names its section). A state is built from `running` by what the test needs. -/

namespace Sys2Proof.Tests

set_option Elab.async false

open Sys2Proof.Machine

/-! ## Building entries and states -/

/-- Bytes followed by 00H up to a length. -/
def padded (n : Nat) (bytes : List Byte) : List Byte := bytes ++ List.replicate (n - bytes.length) 0

/-- The 16-bit field of a number, two's complement where it is negative. -/
def half (i : Int) : List Byte := littleEndian 2 (BitVec.ofInt 16 i).toNat

/-- A work entry: kind code, flags (1 CONT, 2 REPORT), tag, and the operand bytes from offset 04H on. -/
def entry (kind flags tag : Nat) (operands : List Byte) : WorkEntry :=
  ⟨padded 32 (littleEndian 1 kind ++ littleEndian 1 flags ++ littleEndian 2 tag ++ operands)⟩

/-- A RUNNING part with four ACTIVE rings of 16 entries, a report ring of 16 and a 64 × 16 panel. -/
def running : State :=
  let s := State.reset
  let s := s.withHost { s.host with part := .running }
  let s := s.withIntake { s.intake with
    rings := Vector.replicate 4 { Ring.unused with base := 0x100000, size := 16, state := .active } }
  let s := s.withReport { s.report with size := 16 }
  s.withPresentation { s.presentation with
    state := .running, panelWidth := 64, panelHeight := 16, framePeriod := 2000,
    blink := Vector.replicate 3 (startedBlink 2 1) }

/-- Ring `r` SERVES an entry of a kind. -/
def serves (r : RingId) (kind : Kind) (s : State) : State := s.modRing r fun k =>
  { k with phase := .serving, service := some ⟨0, kind, 0, false, false, 1⟩ }

/-- Entry `e` of ring `r` has been handed over and waits. -/
def handed (r : RingId) (e : WorkEntry) (s : State) : State :=
  let s := serves r (e.kind.getD .nop) s
  s.withTransit { s.transit with handover := update s.transit.handover r (some e) }

/-- What a step's next state shows; nothing where it stops. -/
def seen {α : Type} (f : State → α) : Host.Outcome State Fault Refusal → Option α
  | .next t => some (f t)
  | _ => none

/-- The answer waiting for ring `r`. -/
def answered (r : RingId) (t : State) : Option Answer := t.transit.answers[r]

/-- A slot that holds a key. -/
def held (state : SlotState) (face : FaceId) (code : Half) (pins : Nat) : Slot :=
  { Slot.none with state := state, key := some ⟨face, code⟩, pins := pins }

/-- Puts slots, reclaim list and one face into the Glyph Table. -/
def store (slots : List (SlotId × Slot)) (reclaim : List SlotId) (s : State) : State :=
  s.withGlyph { s.glyph with
    slots := slots.foldl (fun v x => update v x.1 x.2) s.glyph.slots, reclaim := reclaim }

/-- Loads a face. -/
def faced (f : FaceId) (face : Face) (s : State) : State :=
  s.withGlyph { s.glyph with faces := update s.glyph.faces f face }

/-- A LOCAL surface of depth 8 with its full clip. -/
def surface8 (base width height : Nat) : Surface :=
  { Surface.none with
    state := .set, base := BitVec.ofNat 32 base, width := width, height := height, depth := 8, pitch := width,
    clip := some ⟨0, 0, width - 1, height - 1⟩ }

/-- Sets a surface descriptor. -/
def surfaced (n : SurfaceId) (k : Surface) (s : State) : State :=
  s.withSurfaces (update s.surfaces n k)

/-! ## Well-formedness: each check refuses an ill-formed command -/

theorem test_wf_ctrl : Instr.wellFormed (.ctrlRun 2) = false ∧ Instr.wellFormed (.ctrlReset 1) = false ∧
    Instr.wellFormed (.ctrlRun 1) = true ∧ Instr.wellFormed (.ctrlReset 3) = true := by decide

theorem test_wf_rcmd : Instr.wellFormed (.rcmdPost 0x10) = false ∧ Instr.wellFormed (.rcmdStop 0x20) = false ∧
    Instr.wellFormed (.rcmdResume 0x30) = false ∧ Instr.wellFormed (.rcmdFlush 0x00) = false ∧
    Instr.wellFormed (.rcmdPost 0x40) = true := by decide

theorem test_wf_whole_reads : Instr.wellFormed (.setupReadEnd (.ok [0])) = false ∧
    Instr.wellFormed (.entryFetchEnd (.ok (List.replicate 31 0))) = false ∧
    Instr.wellFormed (.entryFetchEnd (.ok (List.replicate 32 0))) = true := by decide +kernel

theorem test_wf_unit_reads : Instr.wellFormed (.glyphFillEnd (.ok [0])) = false ∧
    Instr.wellFormed (.defineReadEnd (.ok (List.replicate 66 0))) = false ∧
    Instr.wellFormed (.codeListReadEnd (.ok [0, 0, 0])) = false ∧
    Instr.wellFormed (.rasterTransferEnd (.ok [0, 0])) = false ∧
    Instr.wellFormed (.glyphFillEnd (.ok (List.replicate 64 0))) = true := by decide +kernel

theorem test_wf_cell_reads : Instr.wellFormed (.cellListReadEnd false (.ends [0, 0, 0])) = false ∧
    Instr.wellFormed (.cellListReadEnd true (.delivers (List.replicate 516 0))) = false ∧
    Instr.wellFormed (.cellListReadEnd false (.ends [0, 0, 0, 0])) = true := by decide +kernel

/-- No word spells a command: the table gives no row any bits. -/
theorem test_no_word_spells_a_command :
    decodeTableWord 32 0 = none ∧ running.withFetchWord 32 5 = running := ⟨rfl, rfl⟩

/-- A step takes the front command alone; an empty queue leaves the state. -/
theorem test_step_takes_the_front :
    seen State.pending (step (running.withPending [.frameStart, .nop 0])) = some [.nop 0] ∧
      step running = .next running := ⟨by decide +kernel, rfl⟩

/-! ## Host Port and part control -/

theorem test_power_on_reset : seen (fun t => (t.part, t.host.cause, t.presentation.state))
    (exec .powerOnReset running) = some (.idle, .powerOn, .off) := by decide +kernel

/-- R192, R191, R193. -/
theorem test_setup_write_and_run :
    seen (fun t => t.host.setupAddr) (exec (.setupWrite 0x1234) State.reset) = some 0x1200 ∧
      seen (fun t => (t.part, t.host.setupRead))
        (exec (.ctrlRun 1) (State.reset.withHost { State.reset.host with setupAddr := 0x1200 })) =
        some (.loading, some ⟨0x1200, false⟩) := by decide +kernel

theorem test_ctrl_reset : seen (fun t => (t.part, t.transit.halts)) (exec (.ctrlReset 2) running) =
    some (.resetting, HaltNotices.all) := by decide +kernel

/-- The example of R135: size 16, done 4, head 6, post 8; a POST of 3 is accepted, of 4 and of 7 refused. -/
theorem test_rcmd_post :
    let s := running.modRing 0 fun k => { k with done := 4, head := 6, post := 8, phase := .reporting }
    seen (fun t => ((t.ring 0).post, t.host.evt)) (exec (.rcmdPost 0x30000) s) = some (3, 0) ∧
      seen (fun t => ((t.ring 0).post, t.host.evt)) (exec (.rcmdPost 0x40000) s) = some (8, 4) ∧
      seen (fun t => ((t.ring 0).post, t.host.evt)) (exec (.rcmdPost 0x70000) s) = some (8, 4) := by
  decide +kernel

theorem test_rcmd_stop : seen (fun t => ((t.ring 2).state, t.transit.syncCancel[2]))
    (exec (.rcmdStop 0x12) (serves 2 .wait running)) = some (.stopping, true) := by decide +kernel

theorem test_rcmd_resume : seen (fun t => ((t.ring 1).state, (t.ring 1).statusWrite))
    (exec (.rcmdResume 0x21) (running.modRing 1 fun k => { k with state := .faulted })) =
    some (.active, .inFlight ⟨0, 0x10000⟩) := by decide +kernel

theorem test_rcmd_flush : seen (fun t => ((t.ring 1).head, (t.ring 1).done, t.report.write.map (·.detailA)))
    (exec (.rcmdFlush 0x31) (running.modRing 1 fun k => { k with state := .stopped, done := 1, head := 2, post := 5 })) =
    some (5, 5, some 3) := by decide +kernel

/-- The example of R170: size 16, release 6, write 9; an RREL of 9 is accepted, of 11 and of 5 refused. -/
theorem test_rrel_write :
    let s := running.withReport { running.report with releaseIndex := 6, writeIndex := 9 }
    seen (fun t => (t.report.releaseIndex, t.host.evt)) (exec (.rrelWrite 9) s) = some (9, 0) ∧
      seen (fun t => (t.report.releaseIndex, t.host.evt)) (exec (.rrelWrite 11) s) = some (6, 4) ∧
      seen (fun t => (t.report.releaseIndex, t.host.evt)) (exec (.rrelWrite 5) s) = some (6, 4) := by
  decide +kernel

theorem test_event_writes :
    let s := running.withHost { running.host with evt := 0b1011 }
    seen (fun t => (t.host.evt, t.interruptLine)) (exec (.evtWrite 0b0110) s) = some (0b1001, false) ∧
      seen (fun t => (t.host.evten, t.interruptLine)) (exec (.evtenWrite 0x102) s) = some (0b0010, true) := by
  decide +kernel

theorem test_ignored_write : exec (.ignoredRegisterWrite .ctrl .bits16 3) running = .next running := rfl

/-- R203: 16-bit reads at bytes 0, 1 and 2 of a register that holds 12345640H. -/
theorem test_half_reads :
    let s := State.reset.withHost { State.reset.host with setupAddr := 0x12345640 }
    [0, 1, 2].map (s.readRegisterHalf .setup) = [0x5640, 0x3456, 0x1234] := by decide +kernel

/-- The setup block of the load tests: ring 1 as in section 11.2 (exponent 6, class 1, base 00300000H), rings 0, 2
and 3 UNUSED, the report ring of 16 entries at 00400000H, a 64 × 16 panel and blink classes of 1 frame each. -/
def block : List Byte :=
  padded 16 [] ++ padded 16 (littleEndian 4 0x300000 ++ littleEndian 4 0x10 ++ [6, 1]) ++ padded 32 [] ++
    padded 64 (littleEndian 4 0x400000 ++ [4, 0, 0, 0] ++ half 64 ++ half 16 ++ littleEndian 4 2000 ++
      [1, 1, 1, 1, 1, 1])

/-- Section 11.2: ring 1 has 64 entries of class URGENT at 00300000H. -/
theorem test_setup_read_end :
    let s := State.reset.withHost { State.reset.host with
      part := .loading, origin := .idle, setupRead := some ⟨0, false⟩ }
    seen (fun t => (t.part, (t.ring 0).state, (t.ring 1).size, (t.ring 1).cls, (t.ring 1).base))
      (exec (.setupReadEnd (.ok block)) s) = some (.running, .unused, 64, .urgent, 0x300000) := by
  decide +kernel

/-- R194: a class byte of 2 in ring 1 fails field 7. -/
theorem test_setup_load_end :
    let s := State.reset.withHost { State.reset.host with
      part := .loading, origin := .idle, setupData := some (.ok (block.set 25 2)) }
    seen (fun t => (t.part, t.host.fault, t.host.faultDetail, t.host.evt)) (exec .setupLoadEnd s) =
      some (.halted, .setupInvalid, 7, 2) := by decide +kernel

theorem test_soft_reset_reinit : seen (fun t => (t.part, t.host.cause, (t.ring 0).state))
    (exec .softResetReinit (running.withHost { running.host with part := .resetting })) =
    some (.idle, .soft, .unused) := by decide +kernel

/-- Section 10.7: the status word fault of ring 0. -/
theorem test_fatal_fault : seen (fun t => (t.part, t.host.fault, t.host.faultDetail, t.host.evt))
    (exec (.fatalFault (.statusBus 0))
      (running.withTransit { running.transit with faults := [.statusBus 0] })) =
    some (.halted, .statusBus, 0, 2) := by decide +kernel

/-- A HALTED part with every announcement still to be taken. -/
def halted (s : State) : State :=
  (s.withHost { s.host with part := .halted }).withTransit { s.transit with halts := HaltNotices.all }

/-- Section 10.7: ring 2 keeps done 20, head 23 and post 30 and stays ACTIVE, in phase IDLE. -/
theorem test_intake_halt :
    let s := halted ((serves 2 .laneText running).modRing 2 fun k =>
      { k with size := 64, done := 20, head := 23, post := 30 })
    seen (fun t => ((t.ring 2).done, (t.ring 2).head, (t.ring 2).post, (t.ring 2).state, (t.ring 2).phase))
      (exec .intakeHaltAnnouncement s) = some (20, 23, 30, .active, .idle) := by decide +kernel

/-- A report entry for the tests. -/
def report (n : Nat) : ReportEntry :=
  { lap := true, source := .ring 3, openGroup := false, status := .ok, tag := BitVec.ofNat 16 n, index := 0,
    kind := 0, position := 0, skipped := 0, detailA := 0, detailB := 0, frame := 0 }

theorem test_report_unit_halt :
    let s := halted (running.withReport { running.report with buffer := [report 2], write := some (report 1) })
    seen (fun t => (t.report.buffer, t.report.write)) (exec .reportUnitHaltAnnouncement s) =
      some ([], some (report 1)) := by decide +kernel

theorem test_glyph_table_halt :
    let e := entry 0x12 0 0 ([1, 0, 0, 0] ++ half 0x41 ++ half 0x44)
    let s := halted (running.withGlyph { running.glyph with
      service := some ⟨0, e, 0x41⟩, fetch := some ⟨3, some .preload, 0x40420, 32⟩ })
    seen (fun t => (t.glyph.service, t.glyph.fetch)) (exec .glyphTableHaltAnnouncement s) =
      some (none, some ⟨3, none, 0x40420, 32⟩) := by decide +kernel

/-- Section 10.7: the staged pin of the WRITE is released. -/
theorem test_lane_unit_halt :
    let s := halted (store [(90, held .resident 4 0x31 1)] [] running)
    let s := s.withLane { s.lane with
      staging := [⟨⟨0x31, some 90, 0, false, false⟩, 0⟩],
      service := some ⟨2, 1, .write, 0, [], 1, none, some ⟨0x7000, 8⟩⟩ }
    seen (fun t => (t.lane.service, t.glyph.slots[90].pins, t.glyph.reclaim, t.lane.lostReads))
      (exec .laneUnitHaltAnnouncement s) = some (none, 0, [90], [⟨0x7000, 8⟩]) := by decide +kernel

theorem test_sync_table_halt :
    let s := halted (running.withSync { running.sync with waiters := [⟨1, 6, 1, none⟩], frameWaits := [⟨2, 3⟩] })
    seen (fun t => (t.sync.waiters, t.sync.frameWaits)) (exec .syncTableHaltAnnouncement s) =
      some ([], []) := by decide +kernel

/-! ## Presentation and scan-out: section 4.8 -/

/-- Section 4.8, the initial state. -/
def panel : State :=
  let s := surfaced 3 { surface8 0x3000 64 32 with hold := .front } (surfaced 4 (surface8 0x4000 64 32) running)
  s.withPresentation { s.presentation with front := .view 3 0 0, frameCounter := 500 }

/-- Step 1: the background {4, 0, 16} becomes pending. -/
theorem test_present : seen (fun t => (t.presentation.pending, (t.surfaceAt 3).hold, (t.surfaceAt 4).hold))
    (exec (.present 0) (handed 0 (entry 0x50 0 0 ([4, 0] ++ half 0 ++ half 16)) panel)) =
    some (some ⟨.view 4 0 16, some 0⟩, .front, .pending) := by decide +kernel

/-- Section 4.8 after step 3. -/
def presented : State :=
  let s := serves 0 .present (serves 1 .present (serves 2 .present (surfaced 4
    { surface8 0x4000 64 32 with hold := .pending } panel)))
  s.withPresentation { s.presentation with
    pending := some ⟨.view 4 0 16, some 0⟩,
    queue := [⟨1, entry 0x50 0 0 ([3, 0] ++ half 0 ++ half 0)⟩, ⟨2, entry 0x50 0 0 [0xFF, 0x20]⟩] }

/-- Step 4: frame start 501. -/
theorem test_frame_start :
    seen (fun t => (t.presentation.frameCounter, t.presentation.front, t.presentation.pending, answered 0 t))
        (exec .frameStart presented) =
        some (501, .view 4 0 16, some ⟨.view 3 0 0, some 1⟩, some .done) ∧
      seen (fun t => (t.presentation.queue.map RingEntry.ring, (t.surfaceAt 3).hold, (t.surfaceAt 4).hold))
        (exec .frameStart presented) = some ([2], .pending, .front) := by decide +kernel

/-- Step 6: ring 2's PRESENT is removed and answers CANCELLED. -/
theorem test_present_cancel :
    let s := presented.withTransit { presented.transit with
      presentCancel := update presented.transit.presentCancel 2 true }
    seen (fun t => (t.presentation.queue.map RingEntry.ring, answered 2 t)) (exec (.presentCancelRequest 2) s) =
      some ([1], some (.failed .cancelled)) := by decide +kernel

theorem test_presentation_halt : seen (fun t => (t.presentation.pending, t.presentation.queue))
    (exec .presentationHaltAnnouncement (halted presented)) = some (some ⟨.view 4 0 16, none⟩, []) := by
  decide +kernel

/-- R89: the rows of a 2 × 2 panel go out from the top, each from px 0; none before the first frame. -/
theorem test_panel_rows :
    let s := panel.withPresentation { panel.presentation with panelWidth := 2, panelHeight := 2 }
    let s := s.withFrameMemory ⟨[(0x3000, 1), (0x3001, 2), (0x3040, 3), (0x3041, 4)]⟩
    (s.withFrame (some (s.snapshot ⟨Vector.replicate 3 .on, s.shownBackground⟩))).panelRows = [[1, 2], [3, 4]] ∧
      s.panelRows = [] := by decide +kernel

/-- R67: a class of 2 frames ON and 1 OFF that is at the end of its OFF frame. -/
theorem test_blink_phase_toggle :
    let s := running.withPresentation { running.presentation with
      blink := update running.presentation.blink 1 ⟨2, 1, .off, 0⟩ }
    seen (fun t => t.presentation.blink[1]) (exec (.blinkPhaseToggle 1) s) = some ⟨2, 1, .on, 2⟩ := by
  decide +kernel

theorem test_host_port_frame_start : seen (fun t => (t.host.fcnt, t.host.evt, t.transit.hostFrames))
    (exec .hostPortFrameStart (running.withTransit { running.transit with hostFrames := [501, 502] })) =
    some (501, 8, [502]) := by decide +kernel

/-! ## Lanes: sections 2.7, 3.9 and 3.10 -/

/-- The face of section 2.7. -/
def face4 : Face := ⟨.loaded, 0x1000, 0x20, 0x7E, 0xFFFF, 7, 12, 8, 24⟩

/-- A plain cell. -/
def cell (code : Half) (slot : Option SlotId) : TextCell := ⟨code, slot, 0, false, false⟩

/-- Section 2.7, the initial state: lane 4, its slots 40 to 44, and slot 90 on the reclaim list. -/
def lane4 : State :=
  let s := faced 4 face4 (store [(40, held .resident 4 0x47 1), (41, held .resident 4 0x41 1),
    (42, held .resident 4 0x54 1), (43, held .resident 4 0x45 1), (44, held .resident 4 0x35 1),
    (90, held .resident 4 0x31 0)] [90] running)
  s.modLane 4 fun k => { k with
    state := .set, visibility := .shown, motion := .moving, offset := 50, countdown := 1, cursor := 4,
    settings := { k.settings with w := 16, h := 16, face := 4, mode := .marquee, interval := 1, hold := 1, gap := 16 },
    cells := [cell 0x47 (some 40), cell 0x41 (some 41), cell 0x54 (some 42), cell 0x45 (some 43),
      cell 0x35 (some 44)] }

/-- A LANE_TEXT entry on lane 4. -/
def text4 (op n : Nat) : WorkEntry := entry 0x41 0 0 ([4, BitVec.ofNat 8 op] ++ half n ++ littleEndian 4 0x7000)

/-- Step 1: the WRITE of three cells reads 12 bytes. -/
theorem test_lane_text_write : seen (fun t => t.lane.service.map fun v => (v.dropped, v.undelivered, v.read))
    (exec (.laneTextWrite 0) (handed 0 (text4 0 3) lane4)) = some (some (0, 3, some ⟨0x7000, 12⟩)) := by
  decide +kernel

theorem test_lane_text_insert : seen (fun t => t.lane.service.map fun v => (v.edit, v.dropped, v.read))
    (exec (.laneTextInsert 0) (handed 0 (text4 1 128) lane4)) = some (some (.insert, 5, some ⟨0x7000, 492⟩)) := by
  decide +kernel

/-- The WRITE of step 1 with codes 31H, 0E9H, 41H alone: two hits and one MISSING; 35H leaves, slot 44 is freed of
its pin, the cursor becomes 7. -/
theorem test_cell_list_read_end :
    let s := serves 0 .laneText lane4
    let s := s.withLane { s.lane with
      service := some ⟨0, 4, .write, 0, [], 3, none, some ⟨0x7000, 12⟩⟩ }
    let x := exec (.cellListReadEnd false
      (.ends ([0x31, 0, 0, 0] ++ [0xE9, 0, 0, 0] ++ [0x41, 0, 0, 0]))) s
    seen (fun t => ((t.laneAt 4).cells.map TextCell.slot, (t.laneAt 4).cursor, (t.laneAt 4).offset)) x =
        some ([some 40, some 41, some 42, some 43, some 90, none, some 41], 7, 50) ∧
      seen (fun t => (t.glyph.reclaim, t.glyph.slots[41].pins, answered 0 t)) x =
        some ([44], 2, some ⟨.partially, 0, 1⟩) := by decide +kernel

/-- R52, R199: the read of the edit that the reset abandons ends, and the reset's wait with it. -/
theorem test_cell_list_read_end_in_reset :
    let s := serves 0 .laneText lane4
    let s := s.withLane { s.lane with service := some ⟨0, 4, .write, 0, [], 3, none, some ⟨0x7000, 12⟩⟩ }
    let s := (s.withHost { s.host with part := .resetting }).withTransit { s.transit with halts := HaltNotices.all }
    seen (fun t => (t.lane.service, t.lane.lostReads, t.portBusy)) (exec (.cellListReadEnd false .busError) s) =
      some (none, [], false) := by decide +kernel

/-- Step 3's DELETE, on the lane of step 1's start: cursor 1, three cells leave, 16 + 16 = 32 pixels stay. -/
theorem test_lane_text_delete :
    let s := handed 0 (text4 2 3) (lane4.modLane 4 fun k => { k with cursor := 1 })
    seen (fun t => ((t.laneAt 4).cells.map TextCell.slot, (t.laneAt 4).offset, t.glyph.reclaim))
      (exec (.laneTextDelete 0) s) = some ([some 40, some 44], 50 % 32, [90, 41, 42, 43]) := by decide +kernel

theorem test_lane_text_clear : seen (fun t => ((t.laneAt 4).cells, (t.laneAt 4).cursor, (t.laneAt 4).offset,
    t.glyph.reclaim)) (exec (.laneTextClear 0) (handed 0 (text4 3 0) lane4)) =
    some ([], 0, 50 % 16, [90, 40, 41, 42, 43, 44]) := by decide +kernel

theorem test_lane_text_cursor :
    seen (fun t => ((t.laneAt 4).cursor, answered 0 t)) (exec (.laneTextCursor 0) (handed 0 (text4 4 5) lane4)) =
        some (5, some .done) ∧
      seen (fun t => ((t.laneAt 4).cursor, answered 0 t)) (exec (.laneTextCursor 0) (handed 0 (text4 4 6) lane4)) =
        some (4, some (.failed .badOperand)) := by decide +kernel

/-- Step 4's REFRESH: the MISSING cell finds the USER slot 201 before the range is looked at. -/
theorem test_lane_view_refresh :
    let s := store [(201, held .user 4 0xE9 0)] [] (lane4.modLane 4 fun k => { k with
      cells := [cell 0x47 (some 40), cell 0xE9 none] })
    seen (fun t => ((t.laneAt 4).cells.map TextCell.slot, t.glyph.slots[201].pins, answered 0 t))
      (exec (.laneViewRefresh 0) (handed 0 (entry 0x42 0 0 [4, 2]) s)) =
      some ([some 40, some 201], 1, some .done) := by decide +kernel

theorem test_lane_view_show_and_hide :
    seen (fun t => (t.laneAt 4).visibility) (exec (.laneViewHide 0) (handed 0 (entry 0x42 0 0 [4, 1]) lane4)) =
        some .hidden ∧
      seen (fun t => answered 0 t) (exec (.laneViewShow 0) (handed 0 (entry 0x42 0 0 [5, 0]) lane4)) =
        some (some (.failed .notSet)) := by decide +kernel

theorem test_lane_view_release : seen (fun t => ((t.laneAt 4).state, t.glyph.slots[40].pins, t.glyph.reclaim))
    (exec (.laneViewRelease 0) (handed 0 (entry 0x42 0 0 [4, 3]) lane4)) =
    some (.unset, 0, [90, 40, 41, 42, 43, 44]) := by decide +kernel

/-- R35 and Table 54: lane 2 in face 4 with gap 2, repeats 2, EACH_PASS and signal counter 5. -/
theorem test_lane_set :
    let e := entry 0x40 0 0 ([2, 4] ++ half 48 ++ half 0 ++ half 16 ++ half 16 ++
      [9, 0, 7, 1, 2, 1, 0, 1, 30, 2] ++ half 2 ++ [2, 5])
    seen (fun t => ((t.laneAt 2).state, (t.laneAt 2).visibility, (t.laneAt 2).settings))
      (exec (.laneSet 0) (handed 0 e lane4)) =
      some (.set, .hidden, ⟨48, 0, 16, 16, 4, 9, 0, 7, true, 2, .marquee, .leftward, 1, 30, 2, 2, .eachPass,
        some 5⟩) := by decide +kernel

/-- Section 3.9: lane 2, with two cells of advance 4, and the report buffer full. -/
def lane2 : State :=
  let s := faced 1 { face4 with advance := 4 } running
  let s := s.withReport { s.report with buffer := (List.range 8).map report, write := some (report 8) }
  s.modLane 2 fun k => { k with
    state := .set, visibility := .shown, motion := .moving, offset := 9, countdown := 1,
    settings := { k.settings with
      w := 16, h := 16, face := 1, mode := .marquee, interval := 1, hold := 1, gap := 2, repeats := 2,
      events := .eachPass, signal := some 5 },
    cells := [cell 0x41 none, cell 0x42 none] }

/-- A frame start announced to the Lane Unit. -/
def announced (s : State) : State :=
  s.withTransit { s.transit with laneFrames := [⟨Vector.replicate 3 .on, .blank 0⟩] }

/-- Motion, offset, countdown and pass count of lane 2. -/
def motion (t : State) : Motion × Nat × Nat × Nat :=
  ((t.laneAt 2).motion, (t.laneAt 2).offset, (t.laneAt 2).countdown, (t.laneAt 2).passCount)

/-- Pending record of lane 2 and the additions sent. -/
def events (t : State) : Option EventRecord × List CounterId := ((t.laneAt 2).record, t.transit.laneAdditions)

/-- Frame start 10 of Table 18. -/
theorem test_lane_frame_start_10 :
    seen motion (exec .laneFrameStart (announced lane2)) = some (.moving, 0, 1, 1) ∧
      seen events (exec .laneFrameStart (announced lane2)) = some (some ⟨1, false⟩, [5]) := by decide +kernel

/-- Frame start 20 of Table 18. -/
theorem test_lane_frame_start_20 :
    let s := lane2.modLane 2 fun k => { k with passCount := 1, record := some ⟨1, false⟩ }
    seen motion (exec .laneFrameStart (announced s)) = some (.still, 0, 0, 2) ∧
      seen events (exec .laneFrameStart (announced s)) = some (some ⟨2, true⟩, [5]) := by decide +kernel

theorem test_marquee_step : seen (fun t => ((t.laneAt 2).offset, (t.laneAt 2).countdown, (t.laneAt 2).passCount))
    (exec (.marqueeStep 2) (lane2.modLane 2 fun k => { k with countdown := 0, offset := 3 })) =
    some (4, 1, 0) := by decide +kernel

/-- Section 3.10: RIGHTWARD from 0 goes to the greatest stop, 24. -/
theorem test_step_jump :
    let s := lane4.modLane 4 fun k => { k with
      offset := 0, countdown := 0, cells := k.cells.take 3,
      settings := { k.settings with mode := .step, direction := .rightward, hold := 30, gap := 5 } }
    seen (fun t => ((t.laneAt 4).offset, (t.laneAt 4).countdown, (t.laneAt 4).passCount))
      (exec (.stepJump 4) s) = some (24, 30, 0) := by decide +kernel

/-- A LANE_MOTION entry on lane 2. -/
def motion2 (op : Nat) (value : Int) : WorkEntry := entry 0x43 0 0 ([2, BitVec.ofNat 8 op] ++ half value)

/-- Section 3.9: the START makes the lane MOVING with pass count 0 and countdown 1. -/
theorem test_lane_motion_start :
    let s := lane2.modLane 2 fun k => { k with motion := .still, offset := 0, countdown := 0, passCount := 2 }
    seen motion (exec (.laneMotionStart 0) (handed 0 (motion2 0 0) s)) = some (.moving, 0, 1, 0) := by
  decide +kernel

theorem test_lane_motion_pause_and_resume :
    seen motion (exec (.laneMotionPause 0) (handed 0 (motion2 1 0) lane2)) = some (.paused, 9, 1, 0) ∧
      seen motion (exec (.laneMotionResume 0) (handed 0 (motion2 2 0)
        (lane2.modLane 2 fun k => { k with motion := .paused }))) = some (.moving, 9, 1, 0) := by decide +kernel

theorem test_lane_motion_stop :
    seen motion (exec (.laneMotionStop 0) (handed 0 (motion2 3 0) lane2)) = some (.still, 0, 0, 0) := by
  decide +kernel

/-- R65: the cycle length is 10, so 9 is in range and 10 is not. -/
theorem test_lane_motion_set_offset :
    let s := lane2.modLane 2 fun k => { k with offset := 0 }
    seen motion (exec (.laneMotionSetOffset 0) (handed 0 (motion2 4 9) s)) = some (.moving, 9, 1, 0) ∧
      seen (answered 0) (exec (.laneMotionSetOffset 0) (handed 0 (motion2 4 10) s)) =
        some (some (.failed .badOperand)) := by decide +kernel

/-- Table 19: at offset 24 of 29, window columns 4, 5 and 12 show the gap, pixel 0 of cell 0, and its last column,
which is paper; window row 1 is paper under vertical offset 2. -/
theorem test_window_at_offset_24 :
    let s := store [(40, { held .resident 4 0x47 1 with bitmap := Vector.replicate 32 0xFFFF })] [] lane4
    let s := s.modLane 4 fun k => { k with
      offset := 24, cells := k.cells.take 3,
      settings := { k.settings with mode := .step, gap := 5, verticalOffset := 2, ink := 9, paper := 1 } }
    let f := s.snapshot ⟨Vector.replicate 3 .on, .blank 0⟩
    let k := s.laneAt 4
    [(4, 2), (5, 2), (11, 13), (12, 2), (5, 1), (5, 14)].map (fun x => f.windowPixel k x.1 x.2) =
      [some 1, some 9, some 9, some 1, some 1, some 1] := by decide +kernel

/-! ## Glyphs: sections 1.10 and 1.11 -/

/-- Section 1.10, the initial state, with one key for all the slots of face 0 and one for those of face 2. -/
def nearlyFull : State :=
  let s := faced 1 ⟨.loaded, 0x40000, 0x20, 0x7E, 0x3F, 8, 16, 9, 32⟩ running
  s.withGlyph { s.glyph with
    slots := ⟨(List.replicate 20 (held .user 0 0x41 1) ++ List.replicate 361 (held .resident 2 0x41 1) ++
      List.replicate 3 Slot.none).toArray, by
        simp only [List.size_toArray, List.length_append, List.length_replicate]⟩ }

/-- Step 1: slot 381 becomes FILLING with key (1, 41H), and the read of 00040420H begins. -/
theorem test_glyph_preload :
    let e := entry 0x12 0 0 ([1, 0, 0, 0] ++ half 0x41 ++ half 0x44)
    seen (fun t => (t.glyph.fetch, t.glyph.slots[381].state, t.glyph.slots[381].key))
      (exec (.glyphPreload 0) (handed 0 e nearlyFull)) =
      some (some ⟨381, some .preload, 0x40420, 32⟩, .filling, some ⟨1, 0x41⟩) := by decide +kernel

/-- Step 1 at the end of 43H's fill: no slot is FREE, and 44H evicts slot 381, the reclaim head. -/
theorem test_glyph_fill_end :
    let e := entry 0x12 0 0 ([1, 0, 0, 0] ++ half 0x41 ++ half 0x44)
    let s := serves 0 .glyphPreload (store [(381, held .resident 1 0x41 0), (382, held .resident 1 0x42 0),
      (383, held .filling 1 0x43 0)] [381, 382] nearlyFull)
    let s := s.withGlyph { s.glyph with
      service := some ⟨0, e, 0x43⟩, fetch := some ⟨383, some .preload, 0x40460, 32⟩ }
    seen (fun t => (t.glyph.fetch.map GlyphFetch.slot, t.glyph.slots[381].key, t.glyph.slots[383].state,
      t.glyph.reclaim)) (exec (.glyphFillEnd (.ok (List.replicate 32 0))) s) =
      some (some 381, some ⟨1, 0x44⟩, .resident, [382, 383]) := by decide +kernel

/-- Section 1.11: face 2, slot 100 FILLING for the edit on lane 5. -/
def redefining : State :=
  let s := faced 2 ⟨.loaded, 0x50000, 0x20, 0x7E, 0x3F, 8, 12, 9, 24⟩ (store [(100, held .filling 2 0x30 0)] [] running)
  s.withGlyph { s.glyph with fetch := some ⟨100, some .laneEdit, 0x50180, 24⟩ }

/-- The define of section 1.11. -/
def define30 : WorkEntry := entry 0x13 0 0 ([2, 0] ++ half 0x30 ++ littleEndian 4 0x81000)

/-- Step 1: the define reads 24 bytes. -/
theorem test_glyph_define : seen (fun t => t.glyph.defineRead)
    (exec (.glyphDefine 2) (handed 2 define30 redefining)) = some (some ⟨0x81000, 24⟩) := by decide +kernel

/-- Step 2: slot 100's define wait is set. -/
theorem test_define_read_end :
    let s := serves 2 .glyphDefine redefining
    let s := s.withGlyph { s.glyph with service := some ⟨2, define30, 0⟩, defineRead := some ⟨0x81000, 24⟩ }
    seen (fun t => (t.glyph.slots[100].defineWait, t.glyph.staging))
      (exec (.defineReadEnd (.ok (List.replicate 24 0xA5))) s) =
      some (true, some (List.replicate 12 0xA5A5)) := by decide +kernel

/-- Step 3: the edit pins slot 100, then the define commits: USER, rows 12 to 31 zero. -/
theorem test_fill_end_commits_the_define :
    let s := serves 2 .glyphDefine (serves 0 .laneText redefining)
    let s := s.withGlyph { s.glyph with
      service := some ⟨2, define30, 0⟩, staging := some (List.replicate 12 0xA5A5),
      slots := update s.glyph.slots 100 { s.glyph.slots[100] with defineWait := true } }
    let s := s.withLane { s.lane with
      service := some ⟨0, 5, .write, 0, [], 1, some ⟨cell 0x30 none, 0⟩, some ⟨0x7000, 4⟩⟩ }
    seen (fun t => (t.glyph.slots[100].state, t.glyph.slots[100].pins, t.glyph.slots[100].bitmap[11],
      t.glyph.slots[100].bitmap[12], answered 2 t)) (exec (.glyphFillEnd (.ok (List.replicate 24 0))) s) =
      some (.user, 1, 0xA5A5, 0, some .done) := by decide +kernel

theorem test_glyph_release :
    let s := store [(7, held .user 2 0x30 0)] [] running
    seen (fun t => (t.glyph.slots[7].state, t.glyph.slots[7].key, answered 0 t))
      (exec (.glyphRelease 0) (handed 0 (entry 0x14 0 0 ([2, 0] ++ half 0x30)) s)) =
      some (.free, none, some .done) := by decide +kernel

/-- R2: the face of section 2.7, and the same with a stride of 22, below 2 × 12. -/
theorem test_face_load :
    let e (stride : Int) := entry 0x10 0 0 ([4, 7, 12, 8] ++ littleEndian 4 0x1000 ++ half 0x20 ++ half 0x7E ++
      half (-1) ++ half stride)
    seen (fun t => (t.glyph.faces[4], answered 0 t)) (exec (.faceLoad 0) (handed 0 (e 24) running)) =
        some (face4, some .done) ∧
      seen (answered 0) (exec (.faceLoad 0) (handed 0 (e 22) running)) =
        some (some (.failed .badOperand)) := by decide +kernel

/-- R4: a face with a pinned slot is in use; without one its slots are freed. -/
theorem test_face_drop :
    let e := entry 0x11 0 0 [4]
    let s := faced 4 face4 (store [(90, held .resident 4 0x31 0)] [90] running)
    seen (answered 0) (exec (.faceDrop 0) (handed 0 e lane4)) = some (some (.failed .inUse)) ∧
      seen (fun t => (t.glyph.faces[4], t.glyph.slots[90].state, t.glyph.reclaim))
        (exec (.faceDrop 0) (handed 0 e s)) = some (Face.none, .free, []) := by decide +kernel

/-! ## Surfaces and drawing: sections 5.10, 6.11 and 6.12 -/

/-- The SURFACE_SET of section 5.10. -/
def set7 (base height : Nat) : WorkEntry :=
  entry 0x20 0 0 ([7, 0, 2, 0] ++ littleEndian 4 base ++ half 100 ++ half height ++ half 28)

/-- Surface 7 of section 5.10. -/
def surface7 : Surface :=
  { Surface.none with
    state := .set, base := 0xF0000, width := 100, height := 50, depth := 2, pitch := 28,
    clip := some ⟨0, 0, 99, 49⟩ }

theorem test_surface_set :
    seen (fun t => t.surfaceAt 7) (exec (.surfaceSet 1) (handed 1 (set7 0xF0000 50) running)) = some surface7 ∧
      seen (answered 1) (exec (.surfaceSet 1) (handed 1 (set7 0xFF000 200) running)) =
        some (some (.failed .badOperand)) := by decide +kernel

theorem test_clip_set :
    let e := entry 0x21 0 0 ([7, 0, 0, 0] ++ half (-20) ++ half 5 ++ half 60 ++ half 200)
    seen (fun t => (t.surfaceAt 7).clip) (exec (.clipSet 1) (handed 1 e (surfaced 7 surface7 running))) =
      some (some ⟨0, 5, 60, 49⟩) := by decide +kernel

/-- Section 5.10: pixel (37, 10) lies in bits 5 and 4 of the byte at 0F0121H. -/
theorem test_pixel_address : surface7.pixelAddr 37 10 = 0xF0121 ∧ pixelOf 2 37 0x20 = 2 ∧
    insertPixel 2 37 0xFF 2 = 0xEF := by decide +kernel

/-- The FILL of section 5.10. -/
def fill7 : WorkEntry :=
  entry 0x30 0 0 ([7, 0, 0, 0xFE] ++ half 50 ++ half 40 ++ half 30 ++ half 20)

/-- The clipped surface 7. -/
def clipped7 : State := surfaced 7 { surface7 with clip := some ⟨0, 5, 60, 49⟩ } running

/-- Row 40 begins with pixel 50, in byte 0F046CH, which is read first; the value is 2. -/
theorem test_fill : seen (fun t => (t.raster.drawing.map Drawing.transfer, (t.surfaceAt 7).mark))
    (exec (.fill 1) (handed 1 fill7 clipped7)) =
    some (some ⟨.destRead 2, .loc, 0xF046C⟩, true) := by decide +kernel

/-- R128: in a HALTED part no claim reaches the engine, whose announcement drops it. -/
theorem test_no_entry_reaches_when_halted :
    let s := handed 1 fill7 clipped7
    let s := s.withHost { s.host with part := .halted }
    seen (fun t => t) (exec (.fill 1) s) = some s ∧
      seen (fun t => t.transit.handover[1]) (exec .rasterHaltAnnouncement (s.withTransit { s.transit with
        halts := HaltNotices.all })) = some none := by
  dsimp only
  and_intros <;> decide +kernel

/-- Pixel 50 occupies bits 3 and 2; the other bits keep what was read, here 0FFH. -/
theorem test_raster_transfer_end :
    let s := (serves 1 .fill (surfaced 7 { surface7 with clip := some ⟨0, 5, 60, 49⟩, mark := true } running))
    let s := (s.withFrameMemory ⟨[(0xF046C, 0xFF)]⟩).withRaster { s.raster with
      step := .drawing, service := some ⟨1, .normal, fill7⟩,
      drawing := some ⟨0, 0, 0, ⟨.destRead 2, .loc, 0xF046C⟩⟩ }
    seen (fun t => t.raster.drawing.map Drawing.transfer) (exec (.rasterTransferEnd .busError) s) =
        some (some ⟨.destWrite 0xFB, .loc, 0xF046C⟩) ∧
      seen (fun t => (t.frameMemory, t.raster.drawing.map Drawing.column))
        (exec (.rasterTransferEnd .busError) (s.withRaster { s.raster with
          drawing := some ⟨0, 0, 0, ⟨.destWrite 0xFB, .loc, 0xF046C⟩⟩ })) =
        some (⟨[(0xF046C, 0xFB)]⟩, some 1) := by decide +kernel

/-- Section 6.11: the first destination pixel, column 0 of row 0, takes source column 3. -/
theorem test_copy :
    let e := entry 0x31 0 0 ([5, 1, 0, 0] ++ half (-3) ++ half 0 ++ half 131 ++ half 32 ++ half 0 ++ half 0 ++ [1, 1])
    let s := surfaced 1 (surface8 0x8000 8 4) (surfaced 5 { surface8 0 128 32 with hold := .front } running)
    seen (fun t => (t.raster.drawing.map Drawing.transfer, (t.surfaceAt 1).mark, (t.surfaceAt 5).mark))
      (exec (.copy 1) (handed 1 e s)) = some (some ⟨.sourceRead, .loc, 0x8003⟩, true, true) := by decide +kernel

/-- R109, R120: EXPAND needs a source of depth 1. -/
theorem test_expand :
    let e := entry 0x32 0 0 ([5, 1, 0, 7] ++ half 0 ++ half 0 ++ half 8 ++ half 4 ++ half 0 ++ half 0 ++ [0, 0, 2])
    let s := surfaced 1 (surface8 0x8000 8 4) (surfaced 5 (surface8 0 128 32) running)
    seen (answered 1) (exec (.expand 1) (handed 1 e s)) = some (some (.failed .badOperand)) ∧
      seen (fun t => t.raster.drawing.map Drawing.transfer) (exec (.expand 1) (handed 1 e
        (surfaced 1 { surface8 0x8000 8 4 with depth := 1 } s))) =
        some (some ⟨.sourceRead, .loc, 0x8000⟩) := by decide +kernel

/-- Section 6.12: face 3, surface 9 and the glyph store. -/
def board : State :=
  let s := faced 3 ⟨.loaded, 0x1000, 0x30, 0x39, 0xFFFF, 6, 10, 7, 20⟩ (store [(50,
    { held .resident 3 0x31 0 with bitmap := Vector.replicate 32 0x0400 }), (51, held .resident 0 0x31 0),
    (20, held .user 3 0x37 1)] [51, 50] running)
  surfaced 9 { surface8 0x9000 64 32 with clip := some ⟨10, 4, 50, 18⟩ } s

/-- The TEXT of section 6.12. -/
def text9 : WorkEntry :=
  entry 0x33 0 0 ([9, 3, 0, 0x0F] ++ half 5 ++ half 12 ++ half 4 ++ [0, 0] ++ littleEndian 4 0xA000)

theorem test_text : seen (fun t => (t.raster.step, t.raster.metrics, t.raster.codeRead, (t.surfaceAt 9).mark))
    (exec (.text 3) (handed 3 text9 board)) =
    some (.readingList, ⟨6, 10, 7⟩, some ⟨0xA000, 8⟩, true) := by decide +kernel

/-- Stamp 0: slot 50 is pinned and leaves the reclaim list; columns 0 to 4 are clipped, and u = 5 takes bit 10,
which is ink here: pixel (10, 12) is written with 0FH. -/
theorem test_code_list_read_end :
    let s := serves 3 .text board
    let s := s.withRaster { s.raster with
      step := .readingList, service := some ⟨3, .normal, text9⟩, metrics := ⟨6, 10, 7⟩, codeRead := some ⟨0xA000, 8⟩ }
    seen (fun t => (t.glyph.slots[50].pins, t.glyph.reclaim, t.raster.drawing.map Drawing.transfer))
      (exec (.codeListReadEnd (.ok (half 0x31 ++ half 0x32 ++ half 0x2D ++ half 0x37))) s) =
      some (1, [51], some ⟨.destWrite 0x0F, .loc, 0x9000 + 12 * 64 + 10⟩) := by decide +kernel

/-! ## The Intake Unit: section 7.13 -/

/-- Ring 1 of section 7.13 with the fetch of an entry in flight. -/
def ring1 (change : Ring → Ring) : State :=
  let s := running.modRing 1 fun k => change { k with
    base := 0x200000, statusAddr := 0x200400, post := 8, head := 4, done := 4, phase := .fetching }
  s.withIntake { s.intake with fetch := some ⟨1, 0x200080⟩, lastServed := 1 }

/-- Post, head, done and group position of ring 1. -/
def indexes (t : State) : Nat × Nat × Nat × Nat :=
  ((t.ring 1).post, (t.ring 1).head, (t.ring 1).done, (t.ring 1).position)

/-- Phase and skip flag of ring 1. -/
def phase (t : State) : Phase × Bool := ((t.ring 1).phase, (t.ring 1).skip)

/-- Step 2: entry 4 goes to the Lane Unit. -/
theorem test_entry_fetch_end :
    let x := exec (.entryFetchEnd (.ok (entry 0x40 1 0x101 [2]).bytes)) (ring1 id)
    seen indexes x = some (8, 5, 4, 1) ∧ seen phase x = some (.serving, false) ∧
      seen (fun t => t.transit.handover[1]) x = some (some (entry 0x40 1 0x101 [2])) := by decide +kernel

/-- Step 4: the walk over entry 7 ends open. -/
theorem test_walk_ends_open :
    let s := ring1 fun k => { k with
      head := 7, position := 2, walk := some ⟨5, 0x41, 0x102, 2, .badOperand, 0, 0, 1⟩ }
    let x := exec (.entryFetchEnd (.ok (entry 0x43 1 0x104 [2]).bytes)) s
    seen indexes x = some (8, 8, 4, 2) ∧
      seen (fun t => t.report.write.map fun e => (e.status, e.tag, e.index, e.skipped)) x =
        some (some (.badOperand, 0x102, 5, 2)) ∧
      seen (fun t => (t.report.write.map ReportEntry.openGroup, phase t)) x =
        some (some true, .reporting, true) := by decide +kernel

/-- Step 3: the failed WRITE opens a walk, with CONT set and head 6 before post 8. -/
theorem test_owner_answer :
    let s := ring1 fun k => { k with
      head := 6, position := 2, phase := .serving, service := some ⟨5, .laneText, 0x102, true, false, 2⟩ }
    let s := (s.withIntake { s.intake with fetch := none }).withTransit { s.transit with
      answers := update s.transit.answers 1 (some (.failed .badOperand)) }
    seen (fun t => (t.ring 1).walk) (exec (.ownerAnswer 1) s) =
        some (some ⟨5, 0x41, 0x102, 2, .badOperand, 0, 0, 0⟩) ∧
      seen (fun t => (phase t, t.intake.fetch)) (exec (.ownerAnswer 1) s) =
        some ((.fetching, false), some ⟨1, 0x2000C0⟩) := by decide +kernel

/-- R5: of two answers of the Glyph Table the later waits for the earlier. R201: in RESETTING a STOPPING ring stays
STOPPING. -/
theorem test_owner_answer_in_turn_and_in_reset :
    let s := (serves 1 .faceLoad (serves 2 .faceLoad running)).modRing 1 fun k => { k with state := .stopping }
    let s := s.withTransit { s.transit with
      answers := update (update s.transit.answers 1 (some .done)) 2 (some .done), glyphAnswers := [2, 1] }
    let reset := (s.withHost { s.host with part := .resetting }).withTransit { s.transit with
      glyphAnswers := [1, 2], halts := HaltNotices.all }
    seen (fun t => t) (exec (.ownerAnswer 1) s) = some s ∧
      seen (fun t => ((t.ring 2).phase, t.transit.glyphAnswers)) (exec (.ownerAnswer 2) s) = some (.idle, [1]) ∧
      seen (fun t => ((t.ring 1).state, (t.ring 1).done)) (exec (.ownerAnswer 1) reset) =
        some (.stopping, 0) := by decide +kernel

/-- R154: the group ends after the failure report, done moves to head, and a status write starts. -/
theorem test_report_accepted :
    let s := ring1 fun k => { k with
      head := 8, position := 2, phase := .reporting, skip := true,
      reportDue := some ⟨5, 0x41, .badOperand, 0x102, 2, 2, true, 0, 0, .endGroup⟩ }
    let s := s.withTransit { s.transit with accepted := update s.transit.accepted 1 true }
    seen indexes (exec (.reportAccepted 1) s) = some (8, 8, 8, 0) ∧
      seen (fun t => (phase t, (t.ring 1).statusWrite)) (exec (.reportAccepted 1) s) =
        some ((.idle, true), .inFlight ⟨0x200400, 0x10008⟩) := by decide +kernel

theorem test_status_word_write_end :
    let s := ring1 fun k => { k with done := 9, statusWrite := .inFlightAndDue ⟨0x200400, 0x10008⟩ }
    seen (fun t => (t.ring 1).statusWrite) (exec (.statusWordWriteEnd 1 false) s) =
        some (.inFlight ⟨0x200400, 0x10009⟩) ∧
      seen (fun t => ((t.ring 1).statusWrite, t.transit.faults)) (exec (.statusWordWriteEnd 1 true) s) =
        some (.none, [.statusBus 1]) := by decide +kernel

theorem test_nop : seen indexes (exec (.nop 1) (ring1 fun k => { k with
      head := 5, position := 1, phase := .serving, service := some ⟨4, .nop, 0, false, false, 1⟩ })) =
    some (8, 5, 5, 0) := by decide +kernel

/-! ## Reports: sections 8.5 and 11.4 -/

/-- R168: the write to the last index ends: the lap flips and the next report's write begins; a bus error sends a
fatal fault instead. -/
theorem test_report_write_end :
    let s := running.withReport { running.report with
      lap := false, writeIndex := 15, releaseIndex := 6, write := some (report 1), buffer := [report 2] }
    seen (fun t => (t.report.writeIndex, t.report.lap, t.report.write, t.host.evt))
        (exec (.reportWriteEnd false) s) = some (0, true, some (report 2), 1) ∧
      seen (fun t => (t.report.writeIndex, t.transit.faults)) (exec (.reportWriteEnd true) s) =
        some (15, [.reportBus]) := by decide +kernel

/-- Section 11.4: the bytes of the failure report of section 7.13, in a frame numbered 0. -/
theorem test_report_bytes :
    ({ lap := true, source := .ring 1, openGroup := true, status := .badOperand, tag := 0x102, index := 5,
       kind := 0x41, position := 2, skipped := 2, detailA := 0, detailB := 0, frame := 0 } : ReportEntry).bytes =
      [0x15, 0x04, 0x02, 0x01, 0x05, 0x00, 0x41, 0x02, 0x02, 0x00, 0, 0, 0, 0, 0, 0] := by decide +kernel

/-! ## Counters and waits: sections 9.5 and 9.9 -/

/-- A WAIT of ring 1 for counter 6 to reach 1. -/
def waiting6 : State :=
  let s := serves 1 .wait running
  s.withSync { s.sync with waiters := [⟨1, 6, 1, none⟩] }

theorem test_wait : seen (fun t => (t.sync.waiters, answered 1 t))
    (exec (.wait 1) (handed 1 (entry 0x61 1 0 ([6, 0] ++ half 0 ++ littleEndian 4 1)) running)) =
    some ([⟨1, 6, 1, none⟩], none) := by decide +kernel

/-- The done pass: counter 6 becomes 1 and the WAIT is answered OK. -/
theorem test_lane_addition : seen (fun t => (t.sync.counters[6], t.sync.waiters, answered 1 t))
    (exec (.laneAddition 6) (waiting6.withTransit { waiting6.transit with laneAdditions := [6] })) =
    some (1, [], some .done) := by decide +kernel

/-- R179: ADD saturates. -/
theorem test_signal_add :
    let s := running.withSync { running.sync with counters := update running.sync.counters 3 0xFFFFFFF0 }
    seen (fun t => (t.sync.counters[3], answered 0 t))
      (exec (.signalAdd 0) (handed 0 (entry 0x60 0 0 ([3, 0, 0, 0] ++ littleEndian 4 0x20)) s)) =
      some (0xFFFFFFFF, some .done) := by decide +kernel

theorem test_signal_set : seen (fun t => (t.sync.counters[6], t.sync.waiters, answered 1 t))
    (exec (.signalSet 0) (handed 0 (entry 0x60 0 0 ([6, 1, 0, 0] ++ littleEndian 4 0)) waiting6)) =
    some (0, [⟨1, 6, 1, none⟩], none) := by decide +kernel

theorem test_wait_frame : seen (fun t => t.sync.frameWaits)
    (exec (.waitFrame 2) (handed 2 (entry 0x62 0 0 ([0, 0] ++ half 3)) running)) = some [⟨2, 3⟩] := by
  decide +kernel

/-- A WAIT_FRAME with one frame to go ends; a WAIT with a timeout of 1 times out. -/
theorem test_sync_frame_start :
    let s := serves 2 .waitFrame (serves 1 .wait running)
    let s := (s.withSync { s.sync with waiters := [⟨1, 6, 1, some 1⟩], frameWaits := [⟨2, 1⟩] }).withTransit
      { s.transit with syncFrames := 1 }
    seen (fun t => (t.sync.waiters, t.sync.frameWaits, answered 1 t, answered 2 t)) (exec .syncFrameStart s) =
      some ([], [], some (.failed .waitTimeout), some .done) := by decide +kernel

theorem test_wait_timeout :
    let s := waiting6.withSync { waiting6.sync with waiters := [⟨1, 6, 1, some 0⟩] }
    seen (fun t => (t.sync.waiters, answered 1 t)) (exec (.waitTimeout 1) s) =
      some ([], some (.failed .waitTimeout)) := by decide +kernel

theorem test_frame_wait_end :
    let s := serves 2 .waitFrame running
    seen (fun t => (t.sync.frameWaits, answered 2 t))
      (exec (.frameWaitEnd 2) (s.withSync { s.sync with frameWaits := [⟨2, 0⟩] })) = some ([], some .done) := by
  decide +kernel

theorem test_sync_cancel :
    let s := waiting6.withTransit { waiting6.transit with
      syncCancel := update waiting6.transit.syncCancel 1 true }
    seen (fun t => (t.sync.waiters, answered 1 t)) (exec (.syncCancelRequest 1) s) =
      some ([], some (.failed .cancelled)) := by decide +kernel

theorem test_raster_halt :
    let s := halted (clipped7.withRaster { RasterEngine.idle with
      step := .drawing, service := some ⟨1, .normal, fill7⟩,
      drawing := some ⟨0, 0, 0, ⟨.destRead 2, .loc, 0xF046C⟩⟩ })
    seen (fun t => (t.raster.finishing, t.raster.service.isSome)) (exec .rasterHaltAnnouncement s) =
      some (true, true) := by decide +kernel

end Sys2Proof.Tests
end

