-- ==== Sys2Proof/Tests/Witnesses.lean ====
section
/-! SUPPORT. Witnesses: for each statement with hypotheses, a concrete state and operands that meet those of each
of its clauses together. `witness_X` belongs to `Obligations.X`. -/

namespace Sys2Proof.Tests

set_option Elab.async false

open Sys2Proof.Machine

/-! ## The machine as a whole -/

theorem witness_StepTakesFrontCommand :
    (running.withPending [.frameStart, .nop 0]).pending = .frameStart :: [.nop 0] := rfl

/-- A part in another part state. -/
def inState (p : PartState) (s : State) : State := s.withHost { s.host with part := p }

theorem witness_ResetsReinitialiseThePart :
    let s := inState .resetting running
    let busy := s.withIntake { s.intake with fetch := some ⟨0, 0⟩ }
    (s.part = .resetting ∧ s.portBusy = false ∧ s.raster.service = none) ∧
      (busy.part = .resetting ∧ busy.portBusy = true) := by decide +kernel

theorem witness_EveryStepKeepsTheInvariant :
    let s := (panel.withFrameMemory ⟨[(5, 7)]⟩).withPending [.frameStart]
    s.Inv ∧ goesOn (step s) := ⟨by unfold State.Inv; decide +kernel, _, rfl⟩

theorem witness_EveryStepKeepsTheScanHolds :
    let s := presented.withPending [.frameStart]
    s.HoldsAgree ∧ goesOn (step s) := ⟨by unfold State.HoldsAgree; decide +kernel, _, rfl⟩

/-- What every slot of a list satisfies, every numbered slot satisfies. -/
theorem every_slot (v : Vector Slot 384) (p : Slot → Bool) (h : v.toList.all p = true) (n : SlotId) :
    p v[n] = true :=
  List.all_eq_true.mp h _ (by simp)

/-- Lane 4 of section 2.7, its slots pinned, and nothing on the reclaim list. -/
def pinned4 : State := (store [(90, Slot.none)] [] (handed 0 (text4 3 0) lane4)).withPending [.laneTextClear 0]

theorem witness_EveryStepKeepsTheReclaimList : pinned4.ReclaimAgrees ∧ goesOn (step pinned4) := by
  have h := every_slot pinned4.glyph.slots (fun k => !(k.state == .resident && k.pins == 0)) (by decide +kernel)
  refine ⟨⟨fun n => ⟨fun hm => (nomatch hm), fun hn => ?_⟩, List.nodup_nil, fun _ hf => (nomatch hf)⟩, _, rfl⟩
  exact absurd (h n) (by rw [hn.1, hn.2]; decide)

theorem witness_OnlyPixelTransfersWriteFrameMemory :
    (∀ read, Instr.frameStart ≠ .rasterTransferEnd read) ∧ goesOn (exec .frameStart panel) :=
  ⟨nofun, _, rfl⟩

/-! ## Part control and the Host Port -/

/-- The reset state with a setup address. -/
def setupAt (a : Word) : State := State.reset.withHost { State.reset.host with setupAddr := a }

theorem witness_CtrlWritesBeginALoadOrAReset :
    ((1 : Word).getLsbD 0 = true ∧ (1 : Word).getLsbD 1 = false ∧ (3 : Word).getLsbD 1 = true) ∧
      ((setupAt 0xFFFFFF80).part = .idle ∧ (setupAt 0xFFFFFF80).host.setupAddr.toNat ≤ 0xFFFFFF80) ∧
      ((inState .halted (setupAt 0xFFFFFFC0)).part = .halted ∧
        0xFFFFFF80 < (inState .halted (setupAt 0xFFFFFFC0)).host.setupAddr.toNat) ∧
      running.part = .running ∧ running.part ≠ .resetting ∧
      (inState .resetting running).part = .resetting ∧
      ((4 : Word).getLsbD 0 = false ∧ (4 : Word).getLsbD 1 = false) := by decide +kernel

theorem witness_SetupWriteSetsTheSetupAddress :
    (State.reset.part = .idle ∧ running.part = .running) ∧ (1 : Word).getLsbD 0 = true ∧
      (1 : Word).getLsbD 1 = false ∧ (setupAt 0xFFFFFF80).part = .idle ∧
      (setupAt 0xFFFFFF80).host.setupAddr.toNat ≤ 0xFFFFFF80 := by decide +kernel

theorem witness_EventWritesAndIgnoredWrites :
    running.part ≠ .resetting ∧ (inState .resetting running).part = .resetting ∧
      AccessSize.bits16 ≠ .bits32 := by decide +kernel

/-- The report ring of the example of R170: release 6, write 9. -/
def release6 : State := running.withReport { running.report with releaseIndex := 6, writeIndex := 9 }

theorem witness_RrelWriteMovesTheReleaseIndex :
    let u := release6.report
    let free (i : Nat) := i < u.size ∧ forward u.size u.releaseIndex i ≤ forward u.size u.releaseIndex u.writeIndex
    release6.part = .running ∧ ((9 : Word).extractLsb' 0 16).toNat = 9 ∧ free 9 ∧ ¬free 10 ∧ ¬free 16 ∧
      State.reset.part = .idle ∧ (inState .resetting running).part = .resetting := by decide +kernel

theorem witness_RefusedRcmdWritesSetProtocolAlone :
    State.reset.part = .idle ∧ running.part = .running ∧ 4 ≤ ((0x0000004 : Word).extractLsb' 0 4).toNat ∧
      4 ≤ (rcmdOperation 0x40).toNat ∧ rcmdRing 3 = some 3 ∧
      ((running.modRing 3 fun _ => Ring.unused).ring 3).state = .unused ∧
      (inState .resetting running).part = .resetting := by decide +kernel

/-- The ring of the example of R135: done 4, head 6, post 8. -/
def post8 : State := running.modRing 0 fun k => { k with done := 4, head := 6, post := 8 }

theorem witness_PostMovesThePostIndexForward :
    let k := post8.ring 0
    let accepted (i : Nat) := i < k.size ∧ forward k.size k.head k.post ≤ forward k.size k.head i ∧
      forward k.size k.done k.head + forward k.size k.head i ≤ k.size - 1
    post8.part = .running ∧ rcmdOperation 0x30000 = 0 ∧ rcmdRing 0x30000 = some 0 ∧ k.state ≠ .unused ∧
      ((0x30000 : Word).extractLsb' 16 16).toNat = 3 ∧ accepted 3 ∧ accepted 8 ∧ ¬accepted 4 ∧ ¬accepted 7 ∧
      ¬accepted 16 := by decide +kernel

theorem witness_StopAndResumeSetTheRingState :
    let stopped := running.modRing 1 fun k => { k with state := .stopped }
    running.part = .running ∧ (rcmdRing 0x11 = some 1 ∧ rcmdOperation 0x11 = 1) ∧
      (rcmdRing 0x21 = some 1 ∧ rcmdOperation 0x21 = 2) ∧
      ((running.ring 1).state = .active ∧ (running.ring 1).phase = .idle) ∧
      (((serves 1 .wait running).ring 1).state = .active ∧ ((serves 1 .wait running).ring 1).phase ≠ .idle) ∧
      (stopped.ring 1).state = .stopped := by decide +kernel

theorem witness_FlushDiscardsTheUnfetchedEntries :
    let s (head : Nat) := running.modRing 1 fun k => { k with state := .faulted, done := 1, head := head, post := 5 }
    (s 4).part = .running ∧ rcmdOperation 0x31 = 3 ∧ rcmdRing 0x31 = some 1 ∧ ((s 4).ring 1).state = .faulted ∧
      ((s 4).ring 1).phase = .idle ∧ forward 16 ((s 5).ring 1).head ((s 5).ring 1).post = 0 ∧
      1 ≤ forward 16 ((s 4).ring 1).head ((s 4).ring 1).post ∧ (running.ring 1).state = .active ∧
      (running.ring 1).state ≠ .unused := by decide +kernel

/-! ## Setup loads, faults and halts -/

/-- A part that has loaded the setup block `b` and has not ended the load. -/
def loaded (read : ReadEnd) : State := State.reset.withHost { State.reset.host with
  part := .loading, origin := .idle, setupData := some read }

theorem witness_SetupLoadStartsThePart :
    let s := loaded (.ok block)
    s.part = .loading ∧ s.host.setupData = some (.ok block) ∧ s.drained = true ∧
      s.transit.halts = HaltNotices.none ∧ setupFails block s.presentation.state = none ∧
      (ringDescriptorAt block 0).exponent = 0 ∧ (ringDescriptorAt block 1).exponent ≠ 0 := by decide +kernel

theorem witness_SetupReadEndsAndFailuresHaltThePart :
    let reading (discarded : Bool) := State.reset.withHost { State.reset.host with
      part := .loading, setupRead := some ⟨0, discarded⟩ }
    let ended := (reading false).withHost { (reading false).host with setupRead := none, setupData := some .busError }
    let busy := ended.withIntake { ended.intake with fetch := some ⟨0, 0⟩ }
    ((reading true).host.setupRead = some ⟨0, true⟩ ∧ (reading false).host.setupRead = some ⟨0, false⟩) ∧
      ((reading false).part = .loading ∧ ended.drained = true ∧ busy.drained = false ∧
        (reading false).transit.halts = HaltNotices.none) ∧
      ((loaded .busError).part = .loading ∧ (loaded .busError).host.setupData = some .busError ∧
        (loaded .busError).drained = true ∧ (loaded .busError).transit.halts = HaltNotices.none) ∧
      (loaded (.ok (block.set 25 2))).drained = true ∧ setupFails (block.set 25 2) .off = some 7 := by
  decide +kernel

/-- A part with a fatal fault on its way. -/
def faulting (f : FatalFault) (s : State) : State := s.withTransit { s.transit with faults := [f] }

theorem witness_FatalFaultHaltsThePart :
    FatalFault.reportBus ∈ (faulting .reportBus running).transit.faults ∧
      (faulting .reportBus running).part = .running ∧
      FatalFault.statusBus 3 ∈ (faulting (.statusBus 3) (inState .halted running)).transit.faults ∧
      (faulting (.statusBus 3) (inState .halted running)).part ≠ .running := by decide +kernel

theorem witness_IntakeHaltDropsTheWorkInHand :
    let s := halted (running.modRing 1 fun k => { k with statusWrite := .inFlightAndDue ⟨0x10, 0⟩ })
    s.transit.halts.intake = true ∧ (s.ring 1).statusWrite = .inFlightAndDue ⟨0x10, 0⟩ ∧
      (s.ring 0).statusWrite = .none := by decide +kernel

/-- The TEXT of section 6.12 as it reads its codes. -/
def readingList : State :=
  let s := serves 3 .text board
  let s := surfaced 9 { s.surfaceAt 9 with mark := true } s
  s.withRaster { RasterEngine.idle with
    step := .readingList, service := some ⟨3, .normal, text9⟩, metrics := ⟨6, 10, 7⟩, codeRead := some ⟨0xA000, 8⟩ }

/-- The WRITE of section 2.7 as it reads its cells. -/
def readingCells (undelivered : Nat) (current : Option StagedCell) : State :=
  let s := serves 0 .laneText lane4
  s.withLane { s.lane with
    service := some ⟨0, 4, .write, 0, [], undelivered, current, some ⟨0x7000, 12⟩⟩ }

/-- The FILL of section 5.10 as it draws. -/
def drawing (transfer : RasterTransfer) (finishing : Bool) : State :=
  let s := serves 1 .fill (surfaced 7 { surface7 with clip := some ⟨0, 5, 60, 49⟩, mark := true } running)
  s.withRaster { RasterEngine.idle with
    step := .drawing, service := some ⟨1, .normal, fill7⟩, drawing := some ⟨0, 0, 0, transfer⟩,
    finishing := finishing }

theorem witness_HaltsDropTheWorkOfTheBlocks :
    let h := (halted running).transit.halts
    (h.report = true ∧ h.sync = true ∧ h.presentation = true ∧ h.glyph = true ∧ h.lane = true ∧ h.raster = true) ∧
      ((halted running).lane.service = none ∧ (halted (readingCells 3 none)).lane.service ≠ none) ∧
      (halted (drawing ⟨.destRead 2, .loc, 0xF046C⟩ false)).raster.step = .drawing ∧
      ((halted readingList).raster.step ≠ .drawing ∧
        (halted readingList).raster.service = some ⟨3, .normal, text9⟩ ∧
        (halted readingList).raster.stamp = none) := by decide +kernel

/-! ## Frame starts and presentation -/

/-- Blink class 2 at a countdown of 0. -/
def blinking (phase : BlinkPhase) : State := running.withPresentation { running.presentation with
  blink := update running.presentation.blink 1 ⟨2, 1, phase, 0⟩ }

theorem witness_BlinkPhasesLastTheirFrames :
    (running.presentation.state = .running ∧ running.presentation.blink[0].countdown ≠ 0) ∧
      ((blinking .on).presentation.blink[1].countdown = 0 ∧ (blinking .on).presentation.blink[1].phase = .on) ∧
      ((blinking .off).presentation.blink[1].countdown = 0 ∧
        (blinking .off).presentation.blink[1].phase = .off) := by decide +kernel

theorem witness_FrameStartAdvancesTheFrame :
    (panel.presentation.state = .running ∧ panel.presentation.pending = none) ∧
      State.reset.presentation.state = .off ∧
      (running.withTransit { running.transit with hostFrames := [501] }).transit.hostFrames = 501 :: [] := by
  decide +kernel

/-- The PRESENT of surface 9, which is UNSET in section 4.8, waits before the others. -/
def failing9 : State := presented.withPresentation { presented.presentation with
  queue := ⟨3, entry 0x50 0 0 [9, 0]⟩ :: presented.presentation.queue }

theorem witness_FrameStartMakesThePendingBackgroundFront :
    failing9.presentation.state = .running ∧
      failing9.presentation.pending = some ⟨.view 4 0 16, some 0⟩ ∧
      failing9.presentation.queue = [⟨3, entry 0x50 0 0 [9, 0]⟩] ++ presented.presentation.queue ∧
      failing9.checkPresent (entry 0x50 0 0 [9, 0]) = .error .notSet ∧
      presented.presentation.queue.head? = some ⟨1, entry 0x50 0 0 ([3, 0] ++ half 0 ++ half 0)⟩ ∧
      failing9.checkPresent (entry 0x50 0 0 ([3, 0] ++ half 0 ++ half 0)) = .ok (.view 3 0 0) := by
  decide +kernel

/-- A PRESENT of ring 3 that waits at its owner. -/
def presents (surface x y : Nat) (s : State) : State :=
  handed 3 (entry 0x50 0 0 ([BitVec.ofNat 8 surface, 0x20] ++ half x ++ half y)) s

theorem witness_PresentTakesABackground :
    let e (surface x y : Nat) := entry 0x50 0 0 ([BitVec.ofNat 8 surface, 0x20] ++ half x ++ half y)
    let fits (y : Nat) := (e 3 0 y).u16 0x06 + 64 ≤ 64 ∧ (e 3 0 y).u16 0x08 + 16 ≤ 32
    ((presents 16 0 0 panel).waitsAt 3 (e 16 0 0) ∧ (e 16 0 0).kind = some .present ∧ (e 16 0 0).u8 4 = 16) ∧
      ((presents 255 0 0 panel).waitsAt 3 (e 255 0 0) ∧ (e 255 0 0).u8 4 = 0xFF) ∧
      ((presents 5 0 0 panel).waitsAt 3 (e 5 0 0) ∧ (panel.surfaceAt 5).state = .unset) ∧
      ((presents 3 0 17 panel).waitsAt 3 (e 3 0 17) ∧ ¬fits 17) ∧
      ((presents 3 0 16 panel).waitsAt 3 (e 3 0 16) ∧ fits 16 ∧ (panel.surfaceAt 3).state = .set ∧
        (panel.surfaceAt 3).space = .loc ∧ (panel.surfaceAt 3).depth = 8 ∧ panel.presentation.pending = none) ∧
      ((presents 3 0 16 presented).waitsAt 3 (e 3 0 16) ∧ presented.presentation.pending ≠ none) ∧
      ((presents 3 0 16 presented).part = .running ∧ (presents 3 0 16 panel).part = .running ∧
        (inState .halted (presents 3 0 16 panel)).part ≠ .running) := by
  decide +kernel

/-! ## Lane motion at frame starts -/

theorem witness_LaneFrameStartMovesEachLane :
    let s := announced lane2
    let k := s.laneAt 2
    let moves (k : Lane) := k.state = .set ∧ k.motion = .moving ∧ k.settings.mode ≠ .fixed ∧ 0 < s.cycleOf k
    let place (k : Lane) := (k.offset + 1) % s.cycleOf k
    s.transit.laneFrames = [⟨Vector.replicate 3 .on, .blank 0⟩] ∧ ¬moves (s.laneAt 0) ∧
      (moves { k with countdown := 2 } ∧ 1 < { k with countdown := 2 }.countdown) ∧
      (moves { k with offset := 3 } ∧ k.countdown ≤ 1 ∧ place { k with offset := 3 } ≠ 0) ∧
      (moves k ∧ place k = 0 ∧ 0 < k.settings.repeats ∧ min 65535 (1 + 1) = k.settings.repeats) ∧
      (moves k ∧ place k = 0 ∧ min 65535 (k.passCount + 1) ≠ k.settings.repeats) := by decide +kernel

/-- Lane 2 with countdown 0 at an offset, in a mode. -/
def due2 (mode : MotionMode) (offset : Nat) : State := lane2.modLane 2 fun k => { k with
  countdown := 0, offset := offset, settings := { k.settings with mode := mode } }

theorem witness_StepsAndJumpsMoveOneLane :
    let k (mode : MotionMode) (offset : Nat) := (due2 mode offset).laneAt 2
    let due (mode : MotionMode) (offset : Nat) := (k mode offset).state = .set ∧ (k mode offset).motion = .moving ∧
      0 < (due2 mode offset).cycleOf (k mode offset) ∧ (k mode offset).countdown = 0
    let jump (offset : Nat) := (k .step offset).nextStop 4 offset
    (due .marquee 8 ∧ (8 + 1) % (due2 .marquee 8).cycleOf (k .marquee 8) ≠ 0) ∧
      (due .marquee 9 ∧ (9 + 1) % (due2 .marquee 9).cycleOf (k .marquee 9) = 0) ∧
      (due .step 0 ∧ jump 0 ≠ 0) ∧ (due .step 8 ∧ jump 8 = 0) ∧ 0 < (k .step 0).cycle 4 ∧
      ((k .step 0).settings.direction = .leftward ∧ (∃ x ∈ (k .step 0).stops 4, 7 < x) ∧
        ∀ x ∈ (k .step 0).stops 4, x ≤ 8) := by decide +kernel

theorem witness_CompletedPassesMakeLaneEvents :
    let k := lane2.laneAt 2
    let done := lane2.modLane 2 fun k => { k with passCount := 1, record := some ⟨65535, false⟩ }
    let quiet := lane2.modLane 2 fun k => { k with settings := { k.settings with events := .none } }
    let empty := lane2.withReport { lane2.report with buffer := [] }
    (0 < k.settings.repeats ∧ min 65535 ((done.laneAt 2).passCount + 1) = k.settings.repeats) ∧
      min 65535 (k.passCount + 1) ≠ k.settings.repeats ∧
      ((quiet.laneAt 2).settings.events ≠ .eachPass ∧ (quiet.laneAt 2).settings.events ≠ .done) ∧
      (k.settings.events = .eachPass ∧ (done.laneAt 2).record = some ⟨65535, false⟩) ∧
      (k.record = none ∧ (inState .halted lane2).part ≠ .running) ∧
      (empty.part = .running ∧ empty.report.buffer.length < 8 ∧ empty.report.ringClass = [] ∧
        ∀ m, (empty.laneAt m).record = none) ∧
      (k.record = none ∧ lane2.part = .running ∧ lane2.report.buffer.length = 8 ∧ lane2.report.write ≠ none) ∧
      ((empty.withReport { empty.report with ringClass := [1] }).report.ringClass ≠ [] ∧
        ((empty.modLane 7 fun k => { k with record := some ⟨1, false⟩ }).laneAt 7).record ≠ none) := by
  decide +kernel

/-! ## Counters and waits -/

/-- A SIGNAL entry. -/
def signal (counter op value : Nat) : WorkEntry :=
  entry 0x60 0 0 ([BitVec.ofNat 8 counter, BitVec.ofNat 8 op, 0, 0] ++ littleEndian 4 value)

theorem witness_SignalsAndLaneAdditionsRetestWaiters :
    let at' (e : WorkEntry) := (handed 0 e waiting6).part = .running ∧ (handed 0 e waiting6).waitsAt 0 e ∧
      e.kind = some .signal
    (inState .halted waiting6).part ≠ .running ∧ (at' (signal 6 0 1) ∧ (signal 6 0 1).u8 4 = 6 ∧ (signal 6 0 1).operation = 0) ∧
      (at' (signal 15 1 1) ∧ (signal 15 1 1).u8 4 = 15 ∧ (signal 15 1 1).operation = 1) ∧
      (at' (signal 16 1 1) ∧ 16 ≤ (signal 16 1 1).u8 4) ∧ (at' (signal 6 2 1) ∧ 2 ≤ (signal 6 2 1).operation) ∧
      (6 : CounterId) ∈ (waiting6.withTransit { waiting6.transit with laneAdditions := [6] }).transit.laneAdditions := by
  decide +kernel

/-- A WAIT entry and a WAIT_FRAME entry. -/
def waits (counter value timeout : Nat) : WorkEntry :=
  entry 0x61 0 0 ([BitVec.ofNat 8 counter, 0] ++ half timeout ++ littleEndian 4 value)
def waitsFrames (n : Nat) : WorkEntry := entry 0x62 0 0 ([0, 0] ++ half n)

theorem witness_WaitsJoinTheirLists :
    let at' (e : WorkEntry) := (handed 0 e running).part = .running ∧ (handed 0 e running).waitsAt 0 e
    (inState .halted running).part ≠ .running ∧ (at' (waits 16 0 0) ∧ (waits 16 0 0).kind = some .wait ∧ 16 ≤ (waits 16 0 0).u8 4) ∧
      (at' (waits 15 0 0) ∧ (waits 15 0 0).u8 4 = 15 ∧
        ((waits 15 0 0).word 8).toNat ≤ (running.counter 15).toNat) ∧
      (at' (waits 15 1 0) ∧ (running.counter 15).toNat < ((waits 15 1 0).word 8).toNat) ∧
      (at' (waitsFrames 0) ∧ (waitsFrames 0).kind = some .waitFrame ∧ (waitsFrames 0).u16 6 = 0) ∧
      (at' (waitsFrames 1) ∧ (waitsFrames 1).u16 6 ≠ 0) := by decide +kernel

theorem witness_FrameStartsEndExpiredWaits :
    let s := serves 2 .waitFrame (serves 1 .wait running)
    let s := s.withSync { s.sync with waiters := [⟨1, 6, 1, some 0⟩], frameWaits := [⟨2, 0⟩] }
    (s.withTransit { s.transit with syncFrames := 1 }).transit.syncFrames = 0 + 1 ∧
      ((⟨1, 6, 1, some 0⟩ : Waiter) ∈ s.sync.waiters ∧ (s.ring 1).awaitsAnswer = true) ∧
      ((⟨2, 0⟩ : FrameWait) ∈ s.sync.frameWaits ∧ (s.ring 2).awaitsAnswer = true) := by decide +kernel

theorem witness_CancelRequestsEndWaits :
    let s := waiting6.withTransit { waiting6.transit with syncCancel := update waiting6.transit.syncCancel 1 true }
    let p := presented.withTransit { presented.transit with
      presentCancel := update (update presented.transit.presentCancel 2 true) 0 true }
    (s.handedOver 1 = none ∧ (s.ring 1).awaitsAnswer = true ∧ s.transit.syncCancel[1] = true ∧
        ∃ w ∈ s.sync.waiters, w.ring = 1) ∧
      (∀ w ∈ (s.withSync SyncTable.reset).sync.waiters, w.ring ≠ 1) ∧
      (p.handedOver 2 = none ∧ (p.ring 2).awaitsAnswer = true ∧ p.transit.presentCancel[2] = true ∧
        ∃ e ∈ p.presentation.queue, e.ring = 2) ∧
      (p.handedOver 0 = none ∧ (p.ring 0).awaitsAnswer = true ∧ p.transit.presentCancel[0] = true ∧
        ∀ e ∈ p.presentation.queue, e.ring ≠ 0) := by decide +kernel

/-! ## The Intake Unit's handling of entries -/

/-- An entry with flags, of a kind code. -/
def flagged (kind flags : Nat) : WorkEntry := entry kind flags 0x101 [2]

theorem witness_FetchedEntryGoesToItsOwner :
    let s := ring1 fun k => { k with position := 15 }
    (s.part = .running ∧ s.intake.fetch = some ⟨1, 0x200080⟩ ∧ (s.ring 1).walk = none ∧
        (s.ring 1).state ≠ .stopping ∧ (s.ring 1).skip = false ∧ (s.ring 1).position < 16) ∧
      (flagged 0x40 1).kind = some .laneSet ∧
      ((flagged 1 1).kind = some .nop ∧ (flagged 1 1).report = false ∧ (flagged 1 1).cont = true) ∧
      ((flagged 1 0).kind = some .nop ∧ (flagged 1 0).report = false ∧ (flagged 1 0).cont = false) ∧
      ((flagged 1 2).kind = some .nop ∧ (flagged 1 2).report = true) := by decide +kernel

theorem witness_FetchedEntryIsSkippedOrFails :
    let plain := ring1 id
    let full := ring1 fun k => { k with position := 16, head := 7 }
    let skipping := ring1 fun k => { k with skip := true }
    let stopping := ring1 fun k => { k with state := .stopping }
    (plain.intake.fetch = some ⟨1, 0x200080⟩ ∧ (inState .halted plain).part ≠ .running) ∧
      (stopping.part = .running ∧ (stopping.ring 1).walk = none ∧ (stopping.ring 1).state = .stopping) ∧
      ((skipping.ring 1).walk = none ∧ (skipping.ring 1).state ≠ .stopping ∧ (skipping.ring 1).skip = true) ∧
      ((plain.ring 1).skip = false ∧ (flagged 0 0).kind = none ∧ (flagged 0 0).cont = false) ∧
      ((flagged 0 1).kind = none ∧ (flagged 0 1).cont = true ∧ ((plain.ring 1).head + 1) % 16 ≠ (plain.ring 1).post) ∧
      ((flagged 1 1).kind ≠ none ∧ 16 ≤ (full.ring 1).position ∧ (flagged 1 1).cont = true ∧
        ((full.ring 1).head + 1) % 16 = (full.ring 1).post) := by decide +kernel

theorem witness_AbandonWalkCountsTheSkippedEntries :
    let s (head : Nat) := ring1 fun k => { k with
      head := head, position := 2, walk := some ⟨5, 0x41, 0x102, 2, .badOperand, 0, 0, 1⟩ }
    ((s 6).part = .running ∧ (s 6).intake.fetch = some ⟨1, 0x200080⟩ ∧
        ((s 6).ring 1).walk = some ⟨5, 0x41, 0x102, 2, .badOperand, 0, 0, 1⟩) ∧
      (flagged 0x42 0).cont = false ∧
      ((flagged 0x42 1).cont = true ∧ (((s 7).ring 1).head + 1) % 16 = ((s 7).ring 1).post ∧
        (((s 6).ring 1).head + 1) % 16 ≠ ((s 6).ring 1).post) := by decide +kernel

/-- Answers that the Glyph Table gave in an order of rings. -/
def told (rings : List RingId) (s : State) : State := s.withTransit { s.transit with glyphAnswers := rings }

theorem witness_OwnerAnswerEndsTheEntry :
    let s (head : Nat) (v : EntryInService) (a : Answer) :=
      let t := ring1 fun k => { k with head := head, phase := .serving, service := some v }
      t.withTransit { t.transit with answers := update t.transit.answers 1 (some a) }
    let v (cont report : Bool) : EntryInService := ⟨5, .laneText, 0x102, cont, report, 2⟩
    ((s 6 (v true true) .done).transit.answers[1] = some .done ∧
        ((s 6 (v true true) .done).ring 1).service = some (v true true)) ∧
      (Answer.done.status = .ok ∧ (Answer.failed .badOperand).status ≠ .ok ∧
        (Answer.failed .badOperand).status ≠ .partially) ∧
      ((s 8 (v true false) .done).ring 1).head = ((s 8 (v true false) .done).ring 1).post ∧
      ((s 6 (v true false) .done).ring 1).head ≠ ((s 6 (v true false) .done).ring 1).post ∧
      ((v true true).report = true ∧ (v true false).report = false ∧ (v true false).cont = true ∧
        (v false false).cont = false) ∧
      ((s 6 (v true true) .done).part ≠ .resetting ∧ 1 ∉ (s 6 (v true true) .done).transit.glyphAnswers) ∧
      ((told [1, 2] running).transit.glyphAnswers.head? = some 1 ∧
        (told [2, 1] running).transit.glyphAnswers = 2 :: [1] ∧ (told [2, 1] running).part ≠ .resetting) ∧
      ((inState .resetting (halted running)).part = .resetting ∧
        (inState .resetting (halted running)).transit.halts.intake = true) := by decide +kernel

theorem witness_ReportAcceptedContinuesTheRing :
    let s (after : AfterReport) :=
      let t := ring1 fun k => { k with
        phase := .reporting, reportDue := some ⟨5, 0x41, .ok, 0x102, 2, 0, false, 0, 0, after⟩ }
      t.withTransit { t.transit with accepted := update t.transit.accepted 1 true }
    let serving := ring1 fun k => { k with phase := .serving, service := some ⟨4, .nop, 0, false, false, 1⟩ }
    ((s .endGroup).transit.accepted[1] = true ∧
        ((s .endGroup).ring 1).reportDue = some ⟨5, 0x41, .ok, 0x102, 2, 0, false, 0, 0, .endGroup⟩) ∧
      ((s .continueGroup).ring 1).reportDue = some ⟨5, 0x41, .ok, 0x102, 2, 0, false, 0, 0, .continueGroup⟩ ∧
      ((serving.ring 1).service = some ⟨4, .nop, 0, false, false, 1⟩ ∧ (serving.ring 1).phase = .serving) ∧
      ((s .endGroup).part ≠ .resetting ∧ (inState .resetting (halted running)).part = .resetting ∧
        (inState .resetting (halted running)).transit.halts.intake = true) := by
  decide +kernel

theorem witness_StatusWritesCarryTheLatestState :
    let s (w : StatusWrite) := ring1 fun k => { k with statusWrite := w }
    let w : StatusTransfer := ⟨0x200400, 0x10004⟩
    ((s .none).part = .running ∧ ((s .none).ring 1).state ≠ .unused ∧ ((s .none).ring 1).statusWrite = .none) ∧
      ((s (.inFlight w)).ring 1).statusWrite = .inFlight w ∧
      ((s (.inFlightAndDue w)).ring 1).statusWrite = .inFlightAndDue w ∧
      (inState .halted (s (.inFlight w))).part ≠ .running := by decide +kernel

theorem witness_FetchArbiterServesUrgentRingsFirst :
    let s := (running.modRing 1 fun k => { k with post := 1 }).modRing 3 fun k => { k with post := 1, cls := .urgent }
    s.part = .running ∧ s.intake.fetch = none ∧
      ((s.ring 1).head ≠ (s.ring 1).post ∧ (s.ring 1).state = .active ∧ (s.ring 1).phase = .idle) ∧
      ((s.ring 3).head ≠ (s.ring 3).post ∧ (s.ring 3).state = .active ∧ (s.ring 3).cls = .urgent) ∧
      State.reset.part ≠ .running ∧ ∀ r, (running.ring r).head = (running.ring r).post := by decide +kernel

/-! ## The Report Unit -/

theorem witness_ServedReportsLeaveNothingWaiting :
    let due (n : Nat) := (running.modRing 1 fun k => { k with
      phase := .reporting, reportDue := some ⟨5, 0x41, .ok, 0x102, 2, 0, false, 0, 0, .endGroup⟩ }).withReport
        { running.report with ringClass := [1], buffer := (List.range n).map report }
    (∀ n ∈ [0, 8], (due n).part = .running ∧ (due n).report.buffer.length ≤ 8) ∧
      ∀ r ∈ (due 8).report.ringClass, ((due 8).ring r).reportDue ≠ none := by decide +kernel

theorem witness_ReportWriteEndMovesTheWriteIndex :
    lane2.report.write = some (report 8) ∧ lane2.part = .running ∧ (inState .halted lane2).part ≠ .running := by
  decide +kernel

/-! ## The Glyph Table -/

/-- FACE_LOAD and FACE_DROP entries, with a cell stride and a face number. -/
def loads (face stride : Nat) : WorkEntry :=
  entry 0x10 0 0 ([BitVec.ofNat 8 face, 7, 12, 8] ++ littleEndian 4 0x1000 ++ half 0x20 ++ half 0x7E ++ half (-1) ++
    half stride)
def drops (face : Nat) : WorkEntry := entry 0x11 0 0 [BitVec.ofNat 8 face]

/-- Face 4 LOADED, with one RESIDENT slot and no user. -/
def unused4 : State := faced 4 face4 (store [(90, held .resident 4 0x31 0)] [90] running)

/-- A face whose slots are neither pinned nor FILLING, in a table without requests, is not in use. -/
theorem not_used (s : State) (f : FaceId) (hq : s.glyph.queue = [])
    (h : s.glyph.slots.toList.all (fun k => k.pins == 0 && k.state != .filling) = true) : ¬s.faceUsed f := by
  rintro (⟨n, _, _, _, hn⟩ | ⟨q, hm, _⟩)
  · have := every_slot _ _ h n
    simp only [Bool.and_eq_true, beq_iff_eq, bne_iff_ne] at this
    exact hn.elim (fun hp => by rw [this.1] at hp; exact absurd hp (by decide)) this.2
  · simp [hq] at hm

theorem witness_FaceEntriesChangeAFace :
    let valid (e : WorkEntry) :=
      let a := e.faceLoadArgs
      a.first.toNat ≤ a.last.toNat ∧ (1 ≤ a.width ∧ a.width ≤ 16) ∧ (1 ≤ a.height ∧ a.height ≤ 32) ∧
        (1 ≤ a.advance ∧ a.advance ≤ 32) ∧ a.stride % 2 = 0 ∧ 2 * a.height ≤ a.stride ∧ a.base.toNat % 2 = 0 ∧
        a.base.toNat + (a.last.toNat - a.first.toNat) * a.stride + 2 * a.height - 1 ≤ 0xFFFFFFFF
    let at' (e : WorkEntry) (s : State) :=
      (handed 0 e s).waitsAt 0 e ∧ (handed 0 e s).glyphFree ∧ (handed 0 e s).part ≠ .resetting
    ((at' (loads 8 24) running ∧ (loads 8 24).kind = some .faceLoad ∧ 8 ≤ (loads 8 24).faceLoadArgs.face) ∧
      (at' (loads 7 22) running ∧ ¬valid (loads 7 22)) ∧
      (at' (loads 4 24) running ∧ valid (loads 4 24) ∧ running.glyph.faces[4].state = .empty) ∧
      (at' (loads 4 24) unused4 ∧ unused4.glyph.faces[4].state = .loaded) ∧
      (at' (drops 8) running ∧ (drops 8).kind = some .faceDrop ∧ 8 ≤ (drops 8).u8 4) ∧
      (at' (drops 7) running ∧ running.glyph.faces[7].state = .empty) ∧
      (at' (drops 4) unused4 ∧ (drops 4).u8 4 = 4)) ∧
    (handed 0 (drops 4) lane4).faceUsed 4 ∧ (handed 0 (loads 4 24) lane4).faceUsed 4 ∧
      ¬(handed 0 (drops 4) unused4).faceUsed 4 ∧ ¬(handed 0 (loads 4 24) unused4).faceUsed 4 :=
  ⟨by dsimp only; and_intros <;> decide +kernel, .inl ⟨40, ⟨4, 0x47⟩, by decide +kernel⟩, .inl ⟨40, ⟨4, 0x47⟩, by decide +kernel⟩,
    not_used _ 4 rfl (by decide +kernel), not_used _ 4 rfl (by decide +kernel)⟩

/-- Entries of the Glyph Table for a face and one code. -/
def releases (face : Nat) : WorkEntry := entry 0x14 0 0 ([BitVec.ofNat 8 face, 0] ++ half 0x30)
def defines (face addr : Nat) : WorkEntry :=
  entry 0x13 0 0 ([BitVec.ofNat 8 face, 0] ++ half 0x30 ++ littleEndian 4 addr)
def preloads (face first last : Nat) : WorkEntry :=
  entry 0x12 0 0 ([BitVec.ofNat 8 face, 0, 0, 0] ++ half first ++ half last)

/-- Face 4 LOADED and a slot that holds the key (4, 30H). -/
def holds30 (state : SlotState) (pins : Nat) : State := faced 4 face4 (store [(7, held state 4 0x30 pins)] [] running)

/-- A glyph store that begins with `n` slots like the given one and goes on with slots like another. -/
def filledStore (n : Nat) (h : n ≤ 384) (a b : Slot) : GlyphTable :=
  { GlyphTable.reset with
    slots := ⟨(List.replicate n a ++ List.replicate (384 - n) b).toArray, by
      simp only [List.size_toArray, List.length_append, List.length_replicate]; omega⟩ }

/-- Face 4 LOADED and every slot pinned by another face's glyphs. -/
def full4 : State :=
  faced 4 face4 (running.withGlyph (filledStore 384 (by decide) (held .resident 0 0x41 1) Slot.none))

theorem witness_GlyphEntriesReleaseDefineAndPreload :
    let at' (e : WorkEntry) (s : State) :=
      (handed 0 e s).waitsAt 0 e ∧ (handed 0 e s).glyphFree ∧ (handed 0 e s).part ≠ .resetting
    let key : Key := ⟨4, 0x30⟩
    ((at' (releases 8) running ∧ (releases 8).kind = some .glyphRelease ∧ 8 ≤ (releases 8).u8 4) ∧
      (at' (defines 8 0) running ∧ (defines 8 0).kind = some .glyphDefine ∧ 8 ≤ (defines 8 0).u8 4) ∧
      (at' (preloads 8 0x30 0x30) running ∧ (preloads 8 0x30 0x30).kind = some .glyphPreload)) ∧
    (at' (releases 4) (holds30 .resident 0) ∧ (releases 4).half 6 = 0x30 ∧
        (holds30 .resident 0).glyph.slotOf key = some 7 ∧ (holds30 .resident 0).glyph.slots[7].state ≠ .user ∧
        running.glyph.slotOf key = none ∧
        (holds30 .user 1).glyph.slots[7].state = .user ∧ 0 < (holds30 .user 1).glyph.slots[7].pins ∧
        (holds30 .user 0).glyph.slotOf key = some 7 ∧ (holds30 .user 0).glyph.slots[7].pins = 0) ∧
    (at' (defines 4 0x81001) (holds30 .user 0) ∧ ((defines 4 0x81001).word 8).toNat % 2 = 1 ∧
        ((defines 4 0x81000).word 8).toNat % 2 = 0 ∧ (holds30 .user 0).glyph.faces[4].state = .loaded ∧
        running.glyph.faces[4].state = .empty) ∧
    (at' (preloads 4 0x30 0x30) (holds30 .resident 0) ∧ ((preloads 4 0x30 0x30).half 8).toNat = 0x30 ∧
        face4.first.toNat ≤ 0x30 ∧ 0x30 ≤ face4.last.toNat ∧ (holds30 .resident 0).glyph.slots[7].state ≠ .filling) ∧
    ((preloads 4 0x7E 0x7F).half 0xA).toNat = 0x7F ∧ ¬0x7F ≤ face4.last.toNat ∧
    (at' (preloads 4 0x7E 0x7E) (holds30 .resident 0) ∧ (holds30 .resident 0).glyph.slotOf ⟨4, 0x7E⟩ = none ∧
        (holds30 .resident 0).glyph.fetch = none ∧ (holds30 .resident 0).glyph.queue = [] ∧
        (holds30 .resident 0).lowestFree 0) ∧
    (0x30 < 0x31 ∧ ((preloads 4 0x30 0x31).half 0xA).toNat = 0x31 ∧
        ({ (holds30 .user 0).glyph with service := some ⟨0, preloads 4 0x30 0x31, 0x31⟩ }.lookup .preload 4 0x31).2 =
          []) ∧
    (at' (preloads 4 0x20 0x7E) full4 ∧ full4.glyph.slotOf ⟨4, 0x20⟩ = none ∧ full4.glyph.fetch = none ∧
        full4.glyph.queue = [] ∧ full4.glyph.slots.toList.all (fun k => k.state != .free) = true ∧
        full4.glyph.reclaim = []) := by
  dsimp only
  and_intros <;> decide +kernel

/-- The define of section 1.11 with its read in flight, over a Glyph Table. -/
def defining (g : GlyphTable) : State :=
  let s := serves 2 .glyphDefine running
  s.withGlyph { g with service := some ⟨2, define30, 0⟩, defineRead := some ⟨0x81000, 24⟩ }

theorem witness_DefineReadEndCommitsTheGlyph :
    let key : Key := ⟨2, 0x30⟩
    let one (state : SlotState) := (store [(100, held state 2 0x30 0)] [] running).glyph
    let users := filledStore 128 (by decide) (held .user 0 0x41 0) Slot.none
    let full := filledStore 384 (by decide) (held .resident 0 0x41 1) Slot.none
    let s := defining (one .user)
    (s.part ≠ .resetting ∧ s.glyph.service = some ⟨2, define30, 0⟩ ∧ s.glyph.defineRead = some ⟨0x81000, 24⟩ ∧
        s.glyph.entries = [] ∧ (s.ring 2).awaitsAnswer = true ∧ define30.u8 4 = 2 ∧ define30.half 6 = 0x30) ∧
      ((one .user).slotOf key = some 100 ∧ (one .user).slots[100].state = .user) ∧
      ((one .resident).slotOf key = some 100 ∧ (one .resident).userCount < 128) ∧
      ({ users with slots := update users.slots 200 (held .resident 2 0x30 0) }.slotOf key = some 200 ∧
        128 ≤ users.userCount) ∧
      ((one .filling).slotOf key = some 100 ∧ (one .filling).slots[100].state = .filling) ∧
      (GlyphTable.reset.slotOf key = none ∧ GlyphTable.reset.fetch = none ∧ GlyphTable.reset.queue = [] ∧
        GlyphTable.reset.userCount < 128 ∧ (defining GlyphTable.reset).lowestFree 0) ∧
      (full.slotOf key = none ∧ full.userCount < 128 ∧ full.reclaim = [] ∧
        full.slots.toList.all (fun k => k.state != .free) = true) ∧
      (users.slotOf key = none ∧ users.fetch = none) ∧
      (GlyphTable.reset.slotOf key = none ∧
        { GlyphTable.reset with fetch := some ⟨0, none, 0, 2⟩ }.fetch ≠ none) ∧
      { filledStore 384 (by decide) (held .resident 0 0x41 0) Slot.none with reclaim := [381, 382] }.reclaim =
        381 :: [382] ∧
      (running.part ≠ .resetting ∧ running.glyph.defineRead = none) := by decide +kernel

/-- Face 2 of section 1.11, and slot 100 FILLING with its key, for a requester and waiters. -/
def fills (who : Option Requester) (waiters : List Requester) (defineWait : Bool) (s : State) : State :=
  let s := faced 2 ⟨.loaded, 0x50000, 0x20, 0x7E, 0x3F, 8, 12, 9, 24⟩ (store [(100,
    { held .filling 2 0x30 0 with waiters := waiters, defineWait := defineWait })] s.glyph.reclaim s)
  s.withGlyph { s.glyph with fetch := some ⟨100, who, 0x50180, 24⟩ }

/-- The glyph store of such a state once slot 100 is RESIDENT, or FREE after a bus error. -/
def afterFill (s : State) (bytes : List Byte) (pins : Nat) : GlyphTable := { s.glyph with
  fetch := none, reclaim := if pins = 0 then s.glyph.reclaim ++ [100] else s.glyph.reclaim,
  slots := update s.glyph.slots 100 { held .resident 2 0x30 pins with
    bitmap := GlyphTable.bitmapOf
      ((List.range 12).map fun i => byteAt bytes (2 * i + 1) ++ byteAt bytes (2 * i)) } }
def afterError (s : State) : GlyphTable := { s.glyph with
  fetch := none, slots := update s.glyph.slots 100 Slot.none }

/-- A preload of codes 30H to 33H of face 2 that has come to a code, a define of section 1.11, and an edit. -/
def preloading (code : Nat) (s : State) : State :=
  let s := serves 2 .glyphPreload s
  s.withGlyph { s.glyph with service := some ⟨2, preloads 2 0x30 0x33, code⟩ }
def definesNext (s : State) : State :=
  let s := serves 2 .glyphDefine s
  s.withGlyph { s.glyph with service := some ⟨2, define30, 0⟩, staging := some (List.replicate 12 0xA5A5) }
def editing (v : LaneService) (s : State) : State :=
  let s := (serves 0 .laneText s).modLane 4 fun k => { k with
    state := .set, cells := [cell 0x31 none, cell 0x30 none], settings := { k.settings with face := 2 } }
  s.withLane { s.lane with service := some v, staging := [⟨cell 0x31 none, 0⟩] }

/-- The edit of two cells that looks up 30H, with one to come or one to look up, and a REFRESH at its last cell. -/
def edit30 (todo : List StagedCell) : LaneService := ⟨0, 4, .write, 0, todo, 1, some ⟨cell 0x30 none, 0⟩, some ⟨0x7000, 8⟩⟩
def refresh30 : LaneService := ⟨0, 4, .refresh, 0, [], 0, some ⟨cell 0x30 none, 1⟩, none⟩

/-- A TEXT on surface 9 that looks up its second code. -/
def texts (paperClear : Byte) : WorkEntry :=
  entry 0x33 0 0 ([9, 2, 0, 0x0F] ++ half 5 ++ half 12 ++ half 4 ++ [0, paperClear] ++ littleEndian 4 0xA000)
def looksUp (s : State) : State :=
  let s := serves 3 .text (surfaced 9 { surface8 0x9000 64 32 with clip := some ⟨10, 4, 50, 18⟩, mark := true } s)
  s.withRaster { RasterEngine.idle with
    step := .lookingUp, service := some ⟨3, .normal, texts 0⟩, metrics := ⟨6, 10, 7⟩, codes := [0x31, 0x30],
    codeIndex := 1 }

theorem witness_GlyphFillEndMakesTheSlotResident :
    let meets (s : State) := s.part ≠ .resetting ∧ s.glyph.fetch.map GlyphFetch.slot = some 100 ∧
      s.glyph.queue = [] ∧ s.glyph.slots[100].pins = 0 ∧ 100 ∉ s.glyph.reclaim ∧ s.glyph.entries = [] ∧
      s.lane.entries = [] ∧ s.raster.claims = []
    let nobody := fills none [] false running
    let preload (code : Nat) := preloading code (fills (some .preload) [] false running)
    let hit := preloading 0x32 (fills (some .preload) [] false (store [(7, held .resident 2 0x33 0)] [7] running))
    let next (g : GlyphTable) (code : Nat) := ({ g with
        service := some ⟨2, preloads 2 0x30 0x33, code⟩ } : GlyphTable).lookup .preload 2 (BitVec.ofNat 16 code)
    let edited (g : GlyphTable) := g.lookup .laneEdit 2 0x40
    let define (users : Nat) (h : users ≤ 384) := definesNext (fills none [] true
      (running.withGlyph (filledStore users h (held .user 0 0x41 0) Slot.none)))
    let edit (v : LaneService) := editing v (fills (some .laneEdit) [] false running)
    let text := looksUp (fills none [.text] false running)
    let pair (who waiter : Requester) (todo : List StagedCell) (g : GlyphTable) :=
      editing (edit30 todo) (preloading 0x30 (fills (some who) [waiter] false (running.withGlyph g)))
    let after := [(⟨cell 0x40 none, 0⟩ : StagedCell)]
    let full := filledStore 384 (by decide) (held .resident 0 0x41 1) Slot.none
    (meets nobody ∧ nobody.glyph.slots[100].defineWait = false ∧ nobody.glyph.slots[100].waiters = []) ∧
      (meets (preload 0x33) ∧ (preload 0x33).glyph.service = some ⟨2, preloads 2 0x30 0x33, 0x33⟩ ∧
        (preloads 2 0x30 0x33).u8 4 = 2 ∧ ((preload 0x33).ring 2).awaitsAnswer = true ∧
        ((preloads 2 0x30 0x33).half 0xA).toNat = 0x33 ∧ (next (afterFill (preload 0x30) [] 0) 0x31).2 = []) ∧
      (meets hit ∧ (next (afterFill hit [] 0) 0x33).2 = [.answered .preload (.slot 7)]) ∧
      (meets (define 127 (by decide)) ∧ (define 127 (by decide)).glyph.slots[100].defineWait = true ∧
        ((define 127 (by decide)).ring 2).awaitsAnswer = true) ∧
      ((afterFill (define 100 (by decide)) [] 0).userCount < 128 ∧
        128 ≤ (afterFill (define 129 (by decide)) [] 0).userCount ∧
        (afterError (define 100 (by decide))).slotOf ⟨2, 0x30⟩ = none ∧
        (afterError (define 100 (by decide))).userCount < 128 ∧
        (afterError (define 100 (by decide))).slots[100].state = .free ∧
        (afterError (define 100 (by decide))).slots.toList.take 100 = List.replicate 100 (held .user 0 0x41 0) ∧
        128 ≤ (afterError (define 129 (by decide))).userCount) ∧
      (meets (edit (edit30 [])) ∧ (edit (edit30 [])).lane.service = some (edit30 []) ∧ 0 < (edit30 []).undelivered ∧
        ((edit (edit30 [])).ring 0).awaitsAnswer = true ∧
        (edited (afterFill (edit (edit30 after)) [] 1)).2 = []) ∧
      (meets (edit refresh30) ∧ refresh30.edit = .refresh ∧ refresh30.todo = [] ∧ refresh30.undelivered = 0 ∧
        refresh30.read = none ∧
        (((edit refresh30).lane.staging ++ [(⟨cell 0x30 (some 100), 1⟩ : StagedCell)]).map StagedCell.position).Nodup) ∧
      (meets text ∧ text.glyph.slots[100].waiters = [.text] ∧ text.raster.service = some ⟨3, .normal, texts 0⟩ ∧
        text.raster.step = .lookingUp ∧ text.raster.stamp = none ∧ text.raster.finishing = false ∧
        (texts 0).kind = some .text ∧ (texts 0).rasterArgs.dst = some 9 ∧ (text.ring 3).awaitsAnswer = true ∧
        (texts 0).rasterArgs.mix = some .replace ∧ (texts 0).rasterArgs.paperClear = some false ∧
        (texts 0).rasterArgs.dx + 1 * 7 = 12 ∧ (texts 0).rasterArgs.dy = 12 ∧
        (text.surfaceAt 9).clip = some ⟨10, 4, 50, 18⟩) ∧
      (meets (pair .preload .laneEdit [] full) ∧ meets (pair .laneEdit .preload [] full) ∧
        ((pair .laneEdit .preload [] full).ring 2).awaitsAnswer = true ∧
        (next (afterFill (pair .preload .laneEdit [] full) [] 1) 0x31).2 = [.answered .preload .noSlot]) ∧
      (meets (pair .laneEdit .preload after GlyphTable.reset) ∧
        (edited (afterFill (pair .laneEdit .preload after GlyphTable.reset) [] 1)).2 = [] ∧
        (next (edited (afterFill (pair .laneEdit .preload after GlyphTable.reset) [] 1)).1 0x31).2 = [] ∧
        (next (afterFill (pair .preload .laneEdit after GlyphTable.reset) [] 1) 0x31).2 = [] ∧
        (edited (next (afterFill (pair .preload .laneEdit after GlyphTable.reset) [] 1) 0x31).1).2 = []) := by
  dsimp only
  and_intros <;> decide +kernel

theorem witness_LookupsAnswerWaitOrFetch :
    let g (state : SlotState) := (holds30 state 0).glyph
    let full := { filledStore 384 (by decide) (held .resident 0 0x41 0) Slot.none with
      faces := (holds30 .user 0).glyph.faces, reclaim := [381, 382] }
    let covers (c : Half) := face4.first.toNat ≤ c.toNat ∧ c.toNat ≤ face4.last.toNat
    GlyphTable.reset.faces[4].state = .empty ∧ (g .user).faces[4] = face4 ∧
      ((g .filling).slotOf ⟨4, 0x30⟩ = some 7 ∧ (g .filling).slots[7].state = .filling) ∧
      ((g .user).slotOf ⟨4, 0x30⟩ = some 7 ∧ (g .user).slots[7].state ≠ .filling) ∧
      ((g .user).slotOf ⟨4, 0x7E⟩ = none ∧ covers 0x7E ∧ { g .user with fetch := some ⟨9, none, 0, 2⟩ }.fetch ≠ none) ∧
      (full.slotOf ⟨4, 0x20⟩ = none ∧ covers 0x20 ∧ full.fetch = none ∧ full.queue = [] ∧
        full.slots.toList.all (fun k => k.state != .free) = true ∧ full.reclaim = 381 :: [382]) ∧
      ((g .user).slotOf ⟨4, 0x1F⟩ = none ∧ ¬covers 0x1F ∧ face4.substitute = 0xFFFF ∧
        (g .user).slotOf ⟨4, 0xFFFF⟩ = none ∧ ¬covers 0xFFFF) := by decide +kernel

/-! ## The Surface Table -/

/-- A SURFACE_SET entry of a surface of depth 8 and pitch 64, and a CLIP_SET entry. -/
def sets (surface space height : Nat) : WorkEntry :=
  entry 0x20 0 0 ([BitVec.ofNat 8 surface, BitVec.ofNat 8 space, 8, 0] ++ littleEndian 4 0xFF000 ++ half 64 ++
    half height ++ half 64)
def clips (surface : Nat) (x0 : Int) : WorkEntry :=
  entry 0x21 0 0 ([BitVec.ofNat 8 surface, 0, 0, 0] ++ half x0 ++ half 5 ++ half 60 ++ half 200)

theorem witness_SurfaceEntriesSetASurface :
    let at' (e : WorkEntry) (s : State) := (handed 0 e s).waitsAt 0 e ∧ (handed 0 e s).part ≠ .resetting
    let fits (e : WorkEntry) (last : Nat) :=
      let a := e.surfaceSetArgs
      let rowBytes := (a.width * a.depth + 7) / 8
      (1 ≤ a.width ∧ a.width ≤ 4096) ∧ (1 ≤ a.height ∧ a.height ≤ 4096) ∧
        (a.depth = 1 ∨ a.depth = 2 ∨ a.depth = 4 ∨ a.depth = 8) ∧ a.base.toNat % 4 = 0 ∧ a.pitch % 4 = 0 ∧
        rowBytes ≤ a.pitch ∧ a.pitch ≤ 65532 ∧ a.base.toNat + (a.height - 1) * a.pitch + rowBytes - 1 ≤ last
    let valid (e : WorkEntry) := -4096 ≤ e.clipSetArgs.x0 ∧ e.clipSetArgs.x0 ≤ e.clipSetArgs.x1
    let set := surfaced 7 surface7 running
    (at' (sets 16 0 64) running ∧ (sets 16 0 64).kind = some .surfaceSet ∧ 16 ≤ (sets 16 0 64).surfaceSetArgs.surface) ∧
      (sets 15 2 64).surfaceSetArgs.space = none ∧
      (at' (sets 15 0 65) running ∧ ¬fits (sets 15 0 65) 0xFFFFF ∧ fits (sets 15 1 65) 0xFFFFFFFF) ∧
      (fits (sets 15 0 64) 0xFFFFF ∧ (sets 15 0 64).surfaceSetArgs.surface = 15 ∧
        (sets 15 0 64).surfaceSetArgs.space = some .loc ∧ (running.surfaceAt 15).hold = .none ∧
        (running.surfaceAt 15).mark = false ∧ (panel.surfaceAt 3).hold ≠ .none) ∧
      (at' (clips 16 (-20)) running ∧ (clips 16 (-20)).kind = some .clipSet ∧ 16 ≤ (clips 16 (-20)).clipSetArgs.surface) ∧
      (¬valid (clips 7 (-4097)) ∧ valid (clips 7 (-4096)) ∧ ¬valid (clips 7 61) ∧ valid (clips 7 60)) ∧
      ((running.surfaceAt 7).state = .unset ∧ at' (clips 7 (-20)) set ∧ (set.surfaceAt 7).state = .set ∧
        (set.surfaceAt 7).hold = .none ∧ (set.surfaceAt 7).mark = false) := by
  dsimp only
  and_intros <;> decide +kernel

/-! ## The Raster Engine -/

/-- A COPY within surface 5 or from surface 1 to surface 5. -/
def copies (src mix : Nat) (dx : Int) (w sx : Nat) (wrap : Byte) : WorkEntry :=
  entry 0x31 0 0 ([5, BitVec.ofNat 8 src, BitVec.ofNat 8 mix, 0] ++ half dx ++ half 0 ++ half w ++ half 4 ++ half sx ++
    half 0 ++ [wrap, 1])

/-- The surfaces of section 6.11. -/
def tiles : State := surfaced 1 (surface8 0x8000 8 4) (surfaced 5 (surface8 0 128 32) running)

theorem witness_RasterEntriesAreValidatedInOrder :
    let at' (e : WorkEntry) (s : State) := (handed 1 e s).part = .running ∧ (handed 1 e s).waitsAt 1 e ∧
      (handed 1 e s).rasterIdle ∧ e.kind = some .copy
    let operands (e : WorkEntry) :=
      let a := e.rasterArgs
      a.dst ≠ none ∧ a.src ≠ none ∧ a.mix ≠ none ∧ a.wrap ≠ none ∧ a.keyed ≠ none ∧ a.paperClear ≠ none
    let unset (s : State) (e : WorkEntry) := (s.blocks.surface e.rasterArgs.dst).state = .unset ∨
      (s.blocks.surface e.rasterArgs.src).state = .unset
    let inRange (c : Int) := -4096 ≤ c ∧ c ≤ 8191
    let coordinates (e : WorkEntry) :=
      let a := e.rasterArgs
      (1 ≤ a.w ∧ a.w ≤ 4096) ∧ (1 ≤ a.h ∧ a.h ≤ 4096) ∧ inRange a.dx ∧ inRange (a.dx + a.w - 1) ∧ inRange a.dy ∧
        inRange (a.dy + a.h - 1)
    let kindChecks (s : State) (e : WorkEntry) :=
      let a := e.rasterArgs
      let src := s.blocks.surface a.src
      src.depth = (s.blocks.surface a.dst).depth ∧
        (a.wrap = some true → a.src ≠ a.dst ∧ a.sx < src.width ∧ a.sy < src.height) ∧
        (a.wrap = some false → a.sx + a.w ≤ src.width ∧ a.sy + a.h ≤ src.height)
    (at' (copies 1 6 0 8 0 0) tiles ∧ ¬operands (copies 1 6 0 8 0 0)) ∧
      (at' (copies 2 5 0 8 0 0) tiles ∧ operands (copies 2 5 0 8 0 0) ∧ unset tiles (copies 2 5 0 8 0 0)) ∧
      (operands (copies 1 0 8185 8 0 0) ∧ ¬unset tiles (copies 1 0 8185 8 0 0) ∧ ¬coordinates (copies 1 0 8185 8 0 0)) ∧
      (coordinates (copies 1 0 8184 8 0 0) ∧ kindChecks tiles (copies 1 0 8184 8 0 0)) ∧
      (coordinates (copies 1 0 0 8 1 0) ∧ ¬unset tiles (copies 1 0 0 8 1 0) ∧ ¬kindChecks tiles (copies 1 0 0 8 1 0)) ∧
      (Instr.copy 1 ∈ [Instr.fill 1, .copy 1, .expand 1, .text 1] ∧
        (inState .halted (handed 1 (copies 1 0 0 8 0 0) tiles)).part = .halted) ∧
      kindChecks tiles (copies 1 0 0 8 7 1) ∧ ¬kindChecks tiles (copies 1 0 0 8 8 1) ∧
      ¬kindChecks tiles (copies 5 0 0 8 0 1) := by
  dsimp only
  and_intros <;> decide +kernel

theorem witness_RasterEntriesBeginTheirOperation :
    let at' (r : RingId) (e : WorkEntry) (s : State) := (handed r e s).part = .running ∧ (handed r e s).waitsAt r e ∧
      (handed r e s).rasterIdle ∧ (handed r e s).blocks.rasterFails e.rasterArgs = none ∧
      ∀ n, ((handed r e s).surfaceAt n).mark = false
    let admits (e : WorkEntry) (k : Surface) (x y : Nat) :=
      let a := e.rasterArgs
      (a.dx ≤ x ∧ x ≤ a.dx + a.w - 1) ∧ (a.dy ≤ y ∧ y ≤ a.dy + a.h - 1) ∧
        ∃ c, k.clip = some c ∧ (c.x0 ≤ x ∧ x ≤ c.x1) ∧ c.y0 ≤ y ∧ y ≤ c.y1
    (at' 1 fill7 (surfaced 7 { surface7 with clip := none } running) ∧ fill7.rasterArgs.dst = some 7 ∧
        fill7.kind = some .fill) ∧
      (∀ x y, ¬admits fill7 { surface7 with clip := none } x y) ∧
      at' 1 fill7 clipped7 ∧ admits fill7 (clipped7.surfaceAt 7) 50 40 ∧
      (∀ x y, admits fill7 (clipped7.surfaceAt 7) x y →
        (if fill7.rasterArgs.src = fill7.rasterArgs.dst ∧ (fill7.rasterArgs.sx : Int) < fill7.rasterArgs.dx
          then x ≤ 50 else 50 ≤ x) ∧
        (if fill7.rasterArgs.src = fill7.rasterArgs.dst ∧ (fill7.rasterArgs.sy : Int) < fill7.rasterArgs.dy
          then y ≤ 40 else 40 ≤ y)) ∧
      (at' 3 text9 board ∧ text9.kind = some .text ∧ text9.rasterArgs.face = some 3 ∧
        text9.rasterArgs.dst = some 9) := by
  have hx : fill7.rasterArgs.dx = 50 := by decide +kernel
  have hy : fill7.rasterArgs.dy = 40 := by decide +kernel
  have hs : fill7.rasterArgs.src ≠ fill7.rasterArgs.dst := by decide +kernel
  refine ⟨by decide +kernel, ?_, by decide +kernel, ?_, ?_, by decide +kernel⟩
  · rintro x y ⟨-, -, c, hc, -⟩
    cases hc
  · exact ⟨by decide +kernel, by decide +kernel, ⟨0, 5, 60, 49⟩, by decide +kernel⟩
  · rintro x y ⟨⟨h1, -⟩, ⟨h2, -⟩, -⟩
    rw [hx] at h1
    rw [hy] at h2
    simp only [hs, false_and, if_false]
    omega

/-- The TEXT of one code of section 6.12, with paper clear. -/
def clear9 : WorkEntry :=
  entry 0x33 0 0 ([9, 3, 0, 0x0F] ++ half 5 ++ half 12 ++ half 1 ++ [0, 1] ++ littleEndian 4 0xA000)

theorem witness_CodeListReadEndLooksUpTheFirstCode :
    let s (e : WorkEntry) := readingList.withRaster { readingList.raster with service := some ⟨3, .normal, e⟩ }
    let looked (low : Byte) := readingList.glyph.lookup .text 3 ((0x00 : Byte) ++ low)
    let admits (x y : Nat) := ((5 : Int) ≤ x ∧ (x : Int) ≤ 5 + 7 - 1) ∧ ((12 : Int) ≤ y ∧ (y : Int) ≤ 12 + 10 - 1) ∧
      ∃ clip, (readingList.surfaceAt 9).clip = some clip ∧ (clip.x0 ≤ x ∧ x ≤ clip.x1) ∧ clip.y0 ≤ y ∧ y ≤ clip.y1
    ((s text9).part ≠ .resetting ∧ (s text9).raster = { RasterEngine.idle with
          step := .readingList, service := some ⟨3, .normal, text9⟩, codeRead := some ⟨0xA000, 8⟩, metrics := ⟨6, 10, 7⟩,
          lostReads := (s text9).raster.lostReads } ∧
        text9.kind = some .text ∧ text9.rasterArgs.face = some 3 ∧ text9.rasterArgs.dst = some 9 ∧
        text9.rasterArgs.mix = some .replace ∧ 1 ≤ text9.rasterArgs.count ∧ ((s text9).ring 3).awaitsAnswer = true ∧
        text9.rasterArgs.dx = 5 ∧ text9.rasterArgs.dy = 12) ∧
      ((looked 0x32).2 = [] ∧ (looked 0x31).2 = [.answered .text (.slot 50)] ∧
        text9.rasterArgs.paperClear = some false) ∧
      admits 10 12 ∧ (∀ x y, admits x y → 10 ≤ x ∧ 12 ≤ y) ∧
      ((looked 0x2D).2 = [.answered .text .missing] ∧ clear9.rasterArgs.count = 1 ∧
        clear9.rasterArgs.paperClear = some true) ∧
      (running.part ≠ .resetting ∧ running.raster.codeRead = none) := by
  have hc : (readingList.surfaceAt 9).clip = some ⟨10, 4, 50, 18⟩ := by decide +kernel
  refine ⟨by decide +kernel, by decide +kernel, ?_, ?_, by decide +kernel, by decide +kernel⟩
  · exact ⟨by decide, by decide, ⟨10, 4, 50, 18⟩, hc, by decide, by decide⟩
  · rintro x y ⟨-, ⟨h2, -⟩, clip, h, ⟨h3, -⟩, -⟩
    rw [hc] at h
    cases h
    exact ⟨h3, by omega⟩

/-- The TEXT on surface 9 as it stamps code `index` of two from a slot: pixel rows 12 to 18, columns 10 to 11 or
12 to 18, with a bitmap of which every second row is blank. -/
def stamping (clear : Byte) (index : Nat) (slot : Option SlotId) (d : Drawing) (finishing : Bool) : State :=
  let s := fills none [] false running
  let s := store [(101, { held .resident 2 0x31 1 with
    bitmap := Vector.ofFn fun i => if i.1 % 2 = 0 then 0xFC00 else 0 })] [] s
  let s := looksUp s
  s.withRaster { s.raster with
    step := .drawing, service := some ⟨3, .normal, texts clear⟩, codeIndex := index, stamp := some ⟨slot⟩,
    drawing := some d, finishing := finishing }

theorem witness_PixelTransfersDrawTheRectangle :
    let s (t : RasterTransfer) := drawing t false
    let e := copies 1 0 0 8 0 0
    let c := (serves 1 .copy tiles).withRaster { RasterEngine.idle with
      step := .drawing, service := some ⟨1, .normal, e⟩, drawing := some ⟨0, 0, 0, ⟨.sourceRead, .host, 0x8000⟩⟩ }
    let w := c.blocks.work ⟨1, .normal, e⟩
    let area := ((s ⟨.destWrite 1, .loc, 0xF046C⟩).blocks.work ⟨1, .normal, fill7⟩).area
    let t := s ⟨.destRead 2, .loc, 0xFFFFF⟩
    (t.part ≠ .resetting ∧ t.raster.service = some ⟨1, .normal, fill7⟩ ∧
        t.raster.drawing = some ⟨0, 0, 0, ⟨.destRead 2, .loc, 0xFFFFF⟩⟩ ∧ t.raster.claims = [] ∧
        t.raster.stamp = none ∧ fill7.kind = some .fill ∧ (t.ring 1).awaitsAnswer = true) ∧
      ((0x100000 ≤ (⟨.destRead 2, .loc, 0x100000⟩ : RasterTransfer).addr) ∧ t.raster.finishing = false) ∧
      ((c.ring 1).awaitsAnswer = true ∧ c.raster.stamp = none ∧ e.kind = some .copy ∧
        w.sourceValue 0 1 = some 1 ∧ w.sourceValue 0 0 = none ∧ 0 + 1 < w.area.columns) ∧
      ((s ⟨.destWrite 1, .loc, 0xF046C⟩).raster.drawing = some ⟨0, 0, 0, ⟨.destWrite 1, .loc, 0xF046C⟩⟩ ∧
        9 + 1 < area.columns ∧ 10 + 1 = area.columns ∧ 8 + 1 < area.rows ∧ 9 + 1 = area.rows ∧
        (drawing ⟨.destWrite 1, .loc, 0xF046C⟩ true).raster.finishing = true) ∧
      (w.sourceValue 7 0 = none ∧ 7 + 1 = w.area.columns ∧ 2 + 1 < w.area.rows ∧ 3 + 1 = w.area.rows ∧
        c.raster.finishing = false) := by decide +kernel

/-- The same for a TEXT: of the wanted pixels, with paper clear, u = 0 to 5 of the even rows. -/
theorem witness_PixelTransfersDrawTheRectangle_text :
    let d : Drawing := ⟨4, 0, 0xFC00, ⟨.destWrite 0x0F, .loc, 0x9000⟩⟩
    let s := stamping 1 1 (some 101) d false
    let k := s.blocks.work ⟨3, .normal, texts 1⟩
    let bits (row : Nat) : Half := s.glyph.slots[101].bitmap.toArray.getD row 0
    let wanted (b : Half) (column : Nat) := column < min 6 7 ∧ b.getMsbD column = true
    (s.part ≠ .resetting ∧ s.raster.service = some ⟨3, .normal, texts 1⟩ ∧ s.raster.drawing = some d ∧
        s.raster.stamp = some ⟨some 101⟩ ∧ s.raster.claims = [] ∧ (texts 1).kind = some .text ∧
        (texts 1).rasterArgs.face = some 2 ∧ (s.ring 3).awaitsAnswer = true ∧
        (texts 1).rasterArgs.paperClear = some true) ∧
      (k.area.x0 = 12 ∧ k.area.y0 = 12 ∧ k.area.columns = 7 ∧ k.area.rows = 7 ∧
        (texts 1).rasterArgs.dx + s.raster.codeIndex * s.raster.metrics.advance = 12 ∧
        (texts 1).rasterArgs.dy = 12 ∧ s.raster.step = .drawing ∧ s.raster.finishing = false) ∧
      (wanted 0xFC00 1 ∧ wanted 0xFC00 5 ∧ ¬wanted 0xFC00 6 ∧ ∀ j < 7, ¬wanted (bits 5) j) ∧
      (wanted (bits 6) 0 ∧ bits 6 = 0xFC00 ∧ s.raster.codes.length ≤ s.raster.codeIndex + 1) ∧
      ((stamping 1 0 (some 101) d false).raster.codeIndex + 1 < s.raster.codes.length ∧
        (((stamping 1 0 (some 101) d false).glyph.unpin 101).lookup .text 2 0x30).2 = []) ∧
      ((stamping 1 1 (some 101) d true).raster.finishing = true ∧
        (⟨.destRead 5, .host, 0⟩ : RasterTransfer).space = .host) := by
  dsimp only
  and_intros <;> decide +kernel

theorem witness_DrawingRulesOfPixels :
    let work (wrap keyed : Byte) (kind : Nat) := tiles.blocks.work ⟨1, .normal,
      entry kind 0 0 ([5, 5, 0, 1] ++ half 2 ++ half 0 ++ half 8 ++ half 4 ++ half 0 ++ half 0 ++ [wrap, keyed])⟩
    (1 = 1 ∧ (1 : Byte).toNat < 2 ^ 1 ∧ (255 : Byte).toNat < 2 ^ 8) ∧
      ((work 0 1 0x31).args.kind = .copy ∧ (work 0 1 0x31).args.keyed = some true ∧
        (work 0 0 0x31).args.keyed = some false ∧ pixelOf 8 0 1 = (work 0 1 0x31).args.ink &&& depthMask 8) ∧
      ((work 0 1 0x32).args.kind = .expand ∧ (work 0 1 0x32).args.paperClear = some true ∧
        (work 0 0 0x32).args.paperClear = some false) ∧
      ((work 0 0 0x31).args.src = (work 0 0 0x31).args.dst ∧ (work 0 0 0x31).args.wrap = some false ∧
        3 < (work 0 0 0x31).area.rows ∧ 7 < (work 0 0 0x31).area.columns) := by decide +kernel

/-! ## The Lane Unit's entries -/

/-- A LANE_SET of lane 4 or another in a face. -/
def laneSets (lane face hold : Nat) : WorkEntry :=
  entry 0x40 0 0 ([BitVec.ofNat 8 lane, BitVec.ofNat 8 face] ++ half 48 ++ half 0 ++ half 16 ++ half 16 ++
    [9, 0, 7, 1, 31, 1, 0, 64, BitVec.ofNat 8 hold, 2] ++ half 1023 ++ [2, 0xFF])

/-- A LANE_VIEW entry. -/
def views (lane op : Nat) : WorkEntry := entry 0x42 0 0 [BitVec.ofNat 8 lane, BitVec.ofNat 8 op]

theorem witness_LaneSetAndLaneViewChangeALane :
    let at' (e : WorkEntry) (s : State) :=
      (handed 0 e s).waitsAt 0 e ∧ (handed 0 e s).laneFree ∧ (handed 0 e s).part ≠ .resetting
    let valid (e : WorkEntry) :=
      let a := e.laneSetArgs
      a.lane < 8 ∧ a.face < 8 ∧ (0 < a.w ∧ 0 < a.h) ∧ a.x + a.w ≤ 64 ∧ a.y + a.h ≤ 16 ∧ a.verticalOffset ≤ 31 ∧
        (1 ≤ a.interval ∧ a.interval ≤ 64) ∧ (1 ≤ a.hold ∧ a.hold ≤ 255) ∧ a.gap ≤ 1023 ∧
        a.mode = some .marquee ∧ a.direction = some .leftward ∧ a.events = some .eachPass ∧ a.signal = some none
    let faces := lane4.glyph.faces
    (at' (laneSets 4 4 0) lane4 ∧ (laneSets 4 4 0).kind = some .laneSet ∧ ¬valid (laneSets 4 4 0)) ∧
      (at' (laneSets 4 3 255) lane4 ∧ valid (laneSets 4 3 255) ∧ faces[3].state = .empty) ∧
      ((faced 3 face4 lane4).glyph.faces[3].state = .loaded ∧ (lane4.laneAt 4).cells ≠ [] ∧
        (lane4.laneAt 4).settings.face ≠ 3) ∧
      (at' (laneSets 7 4 1) lane4 ∧ valid (laneSets 7 4 1) ∧ faces[4].state = .loaded ∧
        (lane4.laneAt 7).state = .unset) ∧
      (valid (laneSets 4 4 255) ∧ (lane4.laneAt 4).state = .set ∧ (lane4.laneAt 4).settings.face = 4) ∧
      (at' (views 4 4) lane4 ∧ (views 4 4).kind = some .laneView ∧ 4 ≤ (views 4 4).operation) ∧
      (at' (views 8 3) lane4 ∧ (views 8 3).operation = 3 ∧ 8 ≤ (views 8 3).u8 4) ∧
      (at' (views 7 0) lane4 ∧ (views 7 0).operation = 0 ∧ (views 4 0).u8 4 = 4 ∧ (views 4 1).operation = 1) := by
  dsimp only
  and_intros <;> decide +kernel

/-- Lane 4 with one MISSING cell of a code. -/
def shows (code : Half) : State := lane4.modLane 4 fun k => { k with
  cells := [cell 0x47 (some 40), cell code none, cell 0x41 (some 41)] }

theorem witness_EditsBeginWithTheirReadOrLookup :
    let at' (e : WorkEntry) (s : State) := (handed 0 e s).waitsAt 0 e ∧ (handed 0 e s).laneFree ∧
      (handed 0 e s).part ≠ .resetting ∧ e.u8 4 = 4
    let valid (e : WorkEntry) := (1 ≤ e.u16 6 ∧ e.u16 6 ≤ 128) ∧ (e.word 8).toNat % 4 = 0
    let full := lane4.modLane 4 fun k => { k with cells := List.replicate 128 (cell 0x41 (some 41)), cursor := 128 }
    let lacking := lane4.modLane 4 fun k => { k with cells := [cell 0x47 (some 40), cell 0x41 none] }
    (at' (text4 0 128) lane4 ∧ (text4 0 128).kind = some .laneText ∧ (text4 0 128).operation = 0 ∧
        (text4 1 128).operation = 1 ∧ valid (text4 0 128) ∧ ¬valid (text4 0 129) ∧ ¬valid (text4 0 0)) ∧
      ((lane4.laneAt 4).state = .set ∧ (running.laneAt 4).state = .unset ∧
        (lane4.glyph.faces[(lane4.laneAt 4).settings.face]).state = .loaded ∧
        ((faced 4 Face.none lane4).glyph.faces[4]).state ≠ .loaded) ∧
      (at' (text4 0 1) full ∧ 128 - (full.laneAt 4).cursor = 0 ∧ 128 - (full.laneAt 4).cells.length = 0 ∧
        0 < 128 - (lane4.laneAt 4).cells.length) ∧
      (at' (text4 5 1) lane4 ∧ 5 ≤ (text4 5 1).operation) ∧
      (at' (views 4 2) lane4 ∧ (views 4 2).operation = 2 ∧ ∀ c ∈ (lane4.laneAt 4).cells, c.slot ≠ none) ∧
      ((lacking.laneAt 4).cells = [cell 0x47 (some 40)] ++ cell 0x41 none :: [] ∧
        (({ lacking.glyph with fetch := some ⟨0, none, 0, 2⟩ }).lookup .laneEdit 4 0x51).2 = []) ∧
      (at' (views 4 2) (shows 0x31) ∧
        ((shows 0x31).laneAt 4).cells = [cell 0x47 (some 40)] ++ cell 0x31 none :: [cell 0x41 (some 41)] ∧
        ((shows 0x31).glyph.lookup .laneEdit 4 0x31).2 = [.answered .laneEdit (.slot 90)] ∧
        ((shows 0xE9).glyph.lookup .laneEdit 4 0xE9).2 = [.answered .laneEdit .missing]) := by
  dsimp only
  and_intros <;> decide +kernel

theorem witness_CellListReadEndStagesAndCommits :
    let s := readingCells 3 none
    let waiting := readingCells 2 (some ⟨cell 0x32 none, 0⟩)
    let last := readingCells 1 none
    (s.part ≠ .resetting ∧ s.lane.service = some ⟨0, 4, .write, 0, [], 3, none, some ⟨0x7000, 12⟩⟩ ∧
        s.lane.entries = [] ∧ (s.ring 0).awaitsAnswer = true) ∧
      (waiting.lane.service = some ⟨0, 4, .write, 0, [], 2, some ⟨cell 0x32 none, 0⟩, some ⟨0x7000, 12⟩⟩ ∧
        [0x41, 0, 0, 0, 0x42, 0, 0, (0 : Byte)].length ≤ 4 * 2) ∧
      (last.lane.service = some ⟨0, 4, .write, 0, [], 1, none, some ⟨0x7000, 12⟩⟩ ∧
        (last.glyph.lookup .laneEdit 4 0x31).2 = [.answered .laneEdit (.slot 90)] ∧
        (last.glyph.lookup .laneEdit 4 0xE9).2 = [.answered .laneEdit .missing]) := by decide +kernel

theorem witness_LaneTextDeletesClearsAndMovesTheCursor :
    let at' (e : WorkEntry) (s : State) := (handed 0 e s).waitsAt 0 e ∧ (handed 0 e s).laneFree ∧
      (handed 0 e s).part ≠ .resetting ∧ e.kind = some .laneText
    let e8 := entry 0x41 0 0 ([8, 2] ++ half 1)
    (at' e8 lane4 ∧ e8.operation = 2 ∧ 8 ≤ e8.u8 4) ∧
      (at' (text4 2 1) running ∧ (running.laneAt 4).state = .unset ∧ (text4 2 1).u8 4 = 4) ∧
      (at' (text4 2 129) lane4 ∧ (text4 2 129).u16 6 = 129 ∧ (lane4.laneAt 4).state = .set) ∧
      (at' (text4 2 128) lane4 ∧ (text4 2 128).operation = 2 ∧ (text4 2 128).u16 6 = 128) ∧
      (at' (text4 3 0) lane4 ∧ (text4 3 0).operation = 3) ∧
      (at' (text4 4 5) lane4 ∧ (text4 4 5).operation = 4 ∧ (text4 4 5).u16 6 ≤ (lane4.laneAt 4).cells.length) ∧
      (at' (text4 4 6) lane4 ∧ (lane4.laneAt 4).cells.length < (text4 4 6).u16 6) ∧
      ((lane4.laneAt 4).settings.mode ≠ .fixed ∧ 0 < (lane4.laneAt 4).cells.length * 8 + 16) := by
  dsimp only
  and_intros <;> decide +kernel

theorem witness_LaneMotionOperationsFollowTable17 :
    let at' (e : WorkEntry) (s : State) := (handed 0 e s).waitsAt 0 e ∧ (handed 0 e s).laneFree ∧
      (handed 0 e s).part ≠ .resetting ∧ e.kind = some .laneMotion
    let e8 := entry 0x43 0 0 ([8, 4] ++ half 0)
    let fixed := lane2.modLane 2 fun k => { k with settings := { k.settings with mode := .fixed } }
    let still := lane2.modLane 2 fun k => { k with motion := .still }
    (at' (motion2 5 0) lane2 ∧ 5 ≤ (motion2 5 0).operation) ∧ (at' e8 lane2 ∧ e8.operation = 4 ∧ 8 ≤ e8.u8 4) ∧
      (at' (motion2 0 0) running ∧ (running.laneAt 2).state = .unset ∧ (motion2 0 0).u8 4 = 2) ∧
      (at' (motion2 0 0) fixed ∧ (motion2 0 0).operation = 0 ∧ (fixed.laneAt 2).settings.mode = .fixed) ∧
      (at' (motion2 0 0) still ∧ (still.laneAt 2).state = .set ∧ (still.laneAt 2).motion = .still) ∧
      (at' (motion2 0 0) lane2 ∧ (lane2.laneAt 2).motion ≠ .still ∧ (motion2 1 0).operation = 1 ∧
        (motion2 2 0).operation = 2 ∧ (motion2 3 0).operation = 3) ∧
      (at' (motion2 4 9) lane2 ∧ (motion2 4 9).operation = 4 ∧ (motion2 4 9).u16 6 < 2 * lane2.advanceOf (lane2.laneAt 2) + 2 ∧
        ¬(motion2 4 10).u16 6 < 2 * lane2.advanceOf (lane2.laneAt 2) + 2) := by
  dsimp only
  and_intros <;> decide +kernel

/-! ## The panel -/

theorem witness_BackgroundPixelsComeFromTheFront :
    let shown (s : State) := s.withFrame (some (s.snapshot ⟨Vector.replicate 3 .on, s.shownBackground⟩))
    ((shown panel).frame = some (panel.snapshot ⟨Vector.replicate 3 .on, panel.shownBackground⟩) ∧
        (panel.snapshot ⟨Vector.replicate 3 .on, panel.shownBackground⟩).background = (shown panel).shownBackground) ∧
      63 < (shown panel).presentation.panelWidth ∧ 15 < (shown panel).presentation.panelHeight ∧
      (∀ l : LaneId, panel.lane.lanes[l].state = .unset) ∧ panel.presentation.front = .view 3 0 0 ∧
      running.presentation.front = .blank 0 :=
  ⟨⟨rfl, rfl⟩, by decide +kernel⟩

/-- Lane 4 alone, over a blank background, with slot 40 all ink. -/
def shown4 : Frame :=
  (store [(40, { held .resident 4 0x47 1 with bitmap := Vector.replicate 32 0xFFFF })] [] lane4).snapshot
    ⟨Vector.replicate 3 .on, .blank 0⟩

theorem witness_LanesAreComposedOverTheBackground :
    let s := lane4.withFrame (some shown4)
    let k := { shown4.lanes[4] with offset := 0 }
    (s.frame = some shown4 ∧ lane4.frame = none) ∧
    ((63 < s.presentation.panelWidth ∧ 15 < s.presentation.panelHeight) ∧
      (shown4.lanes[4].state = .set ∧ shown4.lanes[4].visibility = .shown ∧
        shown4.windowPixel shown4.lanes[4] 15 15 = some 0) ∧
      (∀ m : LaneId, 4 < m → shown4.lanes[m].state = .unset) ∧
      (k.settings.mode ≠ .fixed ∧ 0 < k.cells.length * shown4.faces[4].advance + k.settings.gap ∧
        (0 + k.offset) % 56 = 0 ∧ k.cells[0]? = some (cell 0x47 (some 40)) ∧ shown4.faces[4].height ≤ 32) ∧
      40 ≤ (40 + k.offset) % 56) := ⟨⟨rfl, rfl⟩, by decide +kernel⟩

/-! ## Busy blocks -/

theorem witness_BusyBlocksQueueTheirEntries :
    let g := handed 3 (drops 4) (running.withGlyph { running.glyph with service := some ⟨0, preloads 1 0x41 0x44, 0x41⟩ })
    let l := handed 3 (views 4 0) (readingCells 3 none)
    let f := handed 3 fill7 (drawing ⟨.destRead 2, .loc, 0xF046C⟩ false)
    let normal : Claim := ⟨0, .normal, fill7⟩
    let urgent : Claim := ⟨1, .urgent, fill7⟩
    (g.part ≠ .resetting ∧ g.waitsAt 3 (drops 4) ∧ (drops 4).kind = some .faceDrop ∧
        takingCommand 3 (drops 4) = some (.faceDrop 3) ∧ g.glyph.service ≠ none) ∧
      (l.waitsAt 3 (views 4 0) ∧ takingCommand 3 (views 4 0) = some (.laneViewShow 3) ∧ l.lane.service ≠ none) ∧
      (f.part = .running ∧ f.waitsAt 3 fill7 ∧ takingCommand 3 fill7 = some (.fill 3) ∧ f.raster.service ≠ none) ∧
      (urgent.cls = .urgent ∧ ∀ x ∈ [normal], x.cls = .normal) := by decide +kernel

/-- The FILL of section 5.10 at its last pixel, with claims waiting. -/
def lastPixel (claims : List Claim) : State :=
  let s := serves 3 .text (faced 3 (board.glyph.faces[3]) (drawing ⟨.destWrite 1, .loc, 0xF046C⟩ false))
  (surfaced 9 (board.surfaceAt 9) s).withRaster { s.raster with
    drawing := some ⟨9, 10, 0, ⟨.destWrite 1, .loc, 0xF046C⟩⟩, claims := claims }

theorem witness_BusyBlocksQueueTheirEntries_next :
    let c : Claim := ⟨1, .normal, fill7⟩
    let text : Claim := ⟨3, .urgent, text9⟩
    let fill : Claim := ⟨3, .normal, fill7⟩
    let failing : Claim := ⟨3, .normal, copies 1 0 0 8 0 0⟩
    let s := lastPixel [⟨0, .normal, fill7⟩, text, ⟨2, .urgent, fill7⟩]
    (s.part ≠ .resetting ∧ s.raster.service = some c ∧ s.raster.stamp = none ∧ fill7.kind = some .fill ∧
        s.raster.drawing = some ⟨9, 10, 0, ⟨.destWrite 1, .loc, 0xF046C⟩⟩ ∧ s.raster.finishing = false ∧
        (s.ring 1).awaitsAnswer = true ∧ 10 + 1 = (s.blocks.work c).area.columns ∧
        9 + 1 = (s.blocks.work c).area.rows) ∧
      (s.raster.claims = [⟨0, .normal, fill7⟩] ++ text :: [⟨2, .urgent, fill7⟩] ∧ text.cls = .urgent ∧
        s.blocks.rasterFails text9.rasterArgs = none ∧ text9.kind = some .text ∧
        text9.rasterArgs.face = some 3) ∧
      ((lastPixel [fill]).raster.claims = [] ++ fill :: [] ∧ fill.cls = .normal ∧
        (lastPixel [fill]).blocks.rasterFails fill7.rasterArgs = none ∧
        0 < ((lastPixel [fill]).blocks.work fill).area.columns ∧
        0 < ((lastPixel [fill]).blocks.work fill).area.rows) ∧
      ((lastPixel [failing]).blocks.rasterFails failing.entry.rasterArgs = some .notSet ∧
        ((lastPixel [failing]).ring 3).awaitsAnswer = true) := by
  dsimp only
  and_intros <;> decide +kernel

theorem witness_BusyBlocksQueueTheirEntries_heads :
    let g := serves 3 .glyphDefine (defining { redefining.glyph with fetch := none })
    let g := g.withGlyph { g.glyph with entries := [⟨3, define30⟩] }
    let l := serves 3 .laneText (readingCells 3 none)
    let l := l.withLane { l.lane with entries := [⟨3, text4 0 128⟩] }
    (g.part ≠ .resetting ∧ g.glyph.service = some ⟨2, define30, 0⟩ ∧ g.glyph.defineRead = some ⟨0x81000, 24⟩ ∧
        g.glyph.entries = ⟨3, define30⟩ :: [] ∧ (g.ring 2).awaitsAnswer = true ∧
        define30.kind = some .glyphDefine ∧ define30.u8 4 = 2 ∧ g.glyph.faces[2].state = .loaded ∧
        (define30.word 8).toNat % 2 = 0) ∧
      (l.part ≠ .resetting ∧ l.lane.service = some ⟨0, 4, .write, 0, [], 3, none, some ⟨0x7000, 12⟩⟩ ∧
        l.lane.staging = [] ∧ l.lane.entries = ⟨3, text4 0 128⟩ :: [] ∧ (l.ring 0).awaitsAnswer = true ∧
        (text4 0 128).kind = some .laneText ∧ (text4 0 128).operation = 0 ∧ (text4 0 128).u8 4 = 4 ∧
        (l.laneAt 4).state = .set ∧ l.glyph.faces[(l.laneAt 4).settings.face].state = .loaded ∧
        (l.laneAt 4).cursor < 128 ∧ (text4 0 128).u16 6 = 128 ∧ ((text4 0 128).word 8).toNat % 4 = 0) := by
  dsimp only
  and_intros <;> decide +kernel

end Sys2Proof.Tests
end

section
/-! PROOFS. The panel (sections 3.7 and 4.6): what `Frame.overlay`, `Frame.pixel` and `State.panelPixel` give where
no lane is drawn. -/

namespace Sys2Proof.Machine

/-- Inside the panel, the Panel Interface sends the pixel of the frame in hand (R89). -/
theorem State.panelPixel_of_frame {s : State} {f : Frame} {px py : Nat} (hf : s.frame = some f)
    (hx : px < s.presentation.panelWidth) (hy : py < s.presentation.panelHeight) :
    s.panelPixel px py = some (f.pixel s.frameMemory px py) := by
  simp [State.panelPixel, hf, hx, hy]

/-- A lane that is UNSET or HIDDEN leaves the pixel under it (R85). -/
theorem Frame.overlay_of_unset_or_hidden (f : Frame) {k : Lane} (px py : Nat) (below : Byte)
    (hk : k.state = .unset ∨ k.visibility = .hidden) : f.overlay k px py below = below := by
  refine if_neg fun ⟨hset, hshown, _⟩ => ?_
  rcases hk with hunset | hhidden
  · simp [hunset] at hset
  · simp [hhidden] at hshown

/-- Laying lane after lane over the background keeps it as long as every lane leaves what is below it. -/
theorem Frame.pixel_eq_backgroundPixel {f : Frame} (m : Memory) (px py : Nat)
    (hlanes : ∀ l : LaneId, f.lanes[l].state = .unset ∨ f.lanes[l].visibility = .hidden) :
    f.pixel m px py = f.backgroundPixel m px py := by
  refine List.foldlRecOn (motive := (· = f.backgroundPixel m px py)) _ _ rfl fun below hbelow k hk => ?_
  obtain ⟨i, hi, rfl⟩ := Vector.mem_iff_getElem.mp (Vector.mem_toList_iff.mp hk)
  exact (f.overlay_of_unset_or_hidden px py below (hlanes ⟨i, hi⟩)).trans hbelow

/-- Settles O58: with no lane drawn the pixel is the background's, and the frame's background is the front one. -/
theorem backgroundPixelsComeFromTheFront : Obligations.BackgroundPixelsComeFromTheFront := by
  intro s f px py hf hbackground hx hy hlanes
  have hpixel : s.panelPixel px py = some (f.backgroundPixel s.frameMemory px py) := by
    rw [State.panelPixel_of_frame hf hx hy, Frame.pixel_eq_backgroundPixel _ _ _ hlanes]
  constructor
  · intro c hfront
    simp [hpixel, Frame.backgroundPixel, hbackground, State.shownBackground, hfront]
  · intro n x y hfront
    simp [hpixel, Frame.backgroundPixel, hbackground, State.shownBackground, hfront, State.surfaceAt]

end Sys2Proof.Machine
end

section
/-! PROOFS. The end of an entry fetch (sections 7.4 to 7.8): what each operation of the Intake Unit does with an
entry that passes validation, from its completion back to ENTRY_FETCH_END. -/

namespace Sys2Proof.Machine

/-- Of the record that a reporting ring has, the phase and the report due are the offer's own (R156). -/
theorem State.offerRingReport_modRing (s : State) (r : RingId) {f g : Ring → Ring} (rep : RingReport)
    (h : { f (s.ring r) with reportDue := some rep, phase := .reporting } =
      { g (s.ring r) with reportDue := some rep, phase := .reporting }) :
    (s.modRing r f).offerRingReport r rep = (s.modRing r g).offerRingReport r rep := by
  have hoffer : (s.modRing r fun k => { f k with reportDue := some rep, phase := .reporting }) =
      s.modRing r fun k => { g k with reportDue := some rep, phase := .reporting } := State.modRing_congr s r h
  simp only [State.offerRingReport, State.modRing_modRing, hoffer]

/-- Away from STOPPING an entry boundary changes the phase alone (R138). -/
theorem Ring.toIdle_of_not_stopping {k : Ring} (h : k.state ≠ .stopping) : k.toIdle = { k with phase := .idle } := by
  simp [Ring.toIdle, h]

theorem Ring.endGroup_of_not_stopping {k : Ring} (h : k.state ≠ .stopping) :
    k.endGroup = { k with done := k.head, position := 0, phase := .idle } :=
  Ring.toIdle_of_not_stopping h

theorem State.idleRing_of_not_stopping {s : State} {r : RingId} (h : (s.ring r).state ≠ .stopping) :
    s.idleRing r = s.modRing r fun k => { k with phase := .idle } := by
  simp only [State.idleRing, h, if_false]
  exact State.modRing_congr s r (Ring.toIdle_of_not_stopping h)

/-! ### Completion (R149) -/

section
variable (s : State) (r : RingId) (v : EntryInService) (a : Answer)

theorem State.completeEntry_of_report (hreport : v.report = true) :
    s.completeEntry r v a =
      (s.modRing r fun k => { k with service := none }).offerRingReport r (v.completionReport a) := by
  simp [State.completeEntry, hreport]

theorem State.completeEntry_of_cont (hstate : (s.ring r).state ≠ .stopping) (hreport : v.report = false)
    (hcont : v.cont = true) :
    s.completeEntry r v a = s.modRing r fun k => { k with service := none, phase := .idle } := by
  simp only [State.completeEntry, hreport, hcont, Bool.false_eq_true, if_false, if_true]
  rw [State.idleRing_of_not_stopping (by simpa using hstate), State.modRing_modRing]

theorem State.completeEntry_of_group_end (hstate : (s.ring r).state ≠ .stopping) (hreport : v.report = false)
    (hcont : v.cont = false) :
    s.completeEntry r v a =
      (s.modRing r fun k =>
        { k with service := none, done := k.head, position := 0, phase := .idle }).statusDue r := by
  simp only [State.completeEntry, hreport, hcont, Bool.false_eq_true, if_false, State.endGroup, State.modRing_modRing]
  exact congrArg (State.statusDue · r)
    (State.modRing_congr s r (Ring.endGroup_of_not_stopping (k := { s.ring r with service := none }) hstate))

end

/-! ### Validation and handing over (R144, R146, R147) -/

/-- The entry in service that an entry becomes when it passes validation on a ring (R146). -/
def Ring.serviceOf (k : Ring) (e : WorkEntry) (kind : Kind) : EntryInService :=
  ⟨k.head, kind, e.tag, e.cont, e.report, k.position + 1⟩

/-- The ring record while an entry that passed validation is in service (R142, R146). -/
def Ring.serving (k : Ring) (e : WorkEntry) (kind : Kind) : Ring :=
  { k with
    head := (k.head + 1) % k.size, position := k.position + 1, phase := .serving,
    service := some (k.serviceOf e kind) }

section
variable {s : State} {r : RingId} {e : WorkEntry} {kind : Kind}

/-- An entry of a known kind within the group limit takes the next position and is handed over; a NOP is
completed in the same handling. -/
theorem State.validateEntry_of_passes (hkind : e.kind = some kind) (hposition : (s.ring r).position < 16) :
    s.validateEntry r e =
      let s' := s.modRing r (·.serving e kind)
      if kind = .nop then s'.completeEntry r ((s.ring r).serviceOf e kind) .done
      else s'.withTransit { s.transit with handover := update s.transit.handover r (some e) } := by
  have hlimit : ¬ Config.groupLimit ≤ (s.ring r).position := Nat.not_le.mpr hposition
  have hserving : (s.modRing r fun k => { k with
      head := indexPast k.size k.head, position := k.position + 1,
      service := some ((s.ring r).serviceOf e kind), phase := .serving }) = s.modRing r (·.serving e kind) :=
    State.modRing_congr s r rfl
  simp only [State.validateEntry, hkind, hlimit, if_false, State.handEntry, State.modRing_modRing,
    State.modRing_ring_self, State.modRing_transit]
  rw [← hserving]
  rfl

end

/-! ### The end of a fetch (R142) -/

/-- What a ring that is neither STOPPING nor skipping fetches for execution is validated (R142). -/
theorem State.fetched_of_executed {s : State} {r : RingId} (bytes : List Byte)
    (hwalk : (s.ring r).walk = none) (hstate : (s.ring r).state ≠ .stopping)
    (hskip : (s.ring r).skip = false) :
    s.fetched r (.ok bytes) = s.validateEntry r ⟨bytes⟩ := by
  simp [State.fetched, hwalk, hstate, hskip]

theorem exec_entryFetchEnd (read : ReadEnd) (s : State) :
    exec (.entryFetchEnd read) s = execEntryFetchEnd read s := rfl

/-- The Intake Unit after a fetch has ended: none is in flight (R142). -/
def State.fetchDone (s : State) : State := s.withIntake { s.intake with fetch := none }

/-- While the part is RUNNING, the end of the fetch in flight is handled for its ring, and a fetch may be granted
(R141, R142). -/
theorem exec_entryFetchEnd_of_running {s : State} {f : EntryFetch} (read : ReadEnd) (hpart : s.part = .running)
    (hfetch : s.intake.fetch = some f) :
    exec (.entryFetchEnd read) s = .next (s.fetchDone.fetched f.ring read).grantFetch := by
  have hrunning : s.isRunning = true := by simp [State.isRunning, hpart]
  simp [exec_entryFetchEnd, execEntryFetchEnd, hfetch, hrunning, State.fetchDone]

/-- Settles O32: by `State.validateEntry_of_passes`, and for a NOP by the three ways in which an entry completes
(R149). -/
theorem fetchedEntryGoesToItsOwner : Obligations.FetchedEntryGoesToItsOwner := by
  intro s f bytes kind hpart hfetch hkind r k e base hwalk hstate hskip hposition
  have hexec : exec (.entryFetchEnd (.ok bytes)) s = .next (base.fetched r (.ok bytes)).grantFetch :=
    exec_entryFetchEnd_of_running _ hpart hfetch
  have hfetched : base.fetched r (.ok bytes) = base.validateEntry r e :=
    State.fetched_of_executed bytes hwalk hstate hskip
  rw [hfetched, State.validateEntry_of_passes (s := base) hkind hposition] at hexec
  have hserving : ((base.modRing r (·.serving e kind)).ring r).state ≠ .stopping := by
    rwa [State.modRing_ring_self]
  refine ⟨fun hnop => ?_, fun hnop hreport hcont => ?_, fun hnop hreport hcont => ?_, fun hnop hreport => ?_⟩
  · rw [hexec, if_neg hnop]
    rfl
  · rw [hexec, if_pos hnop, State.completeEntry_of_cont _ _ _ _ hserving hreport hcont, State.modRing_modRing]
    rfl
  · rw [hexec, if_pos hnop, State.completeEntry_of_group_end _ _ _ _ hserving hreport hcont, State.modRing_modRing]
    rfl
  · rw [hexec, if_pos hnop, State.completeEntry_of_report _ _ _ _ hreport, State.modRing_modRing]
    exact congrArg (fun t => Host.Outcome.next (State.grantFetch t)) (State.offerRingReport_modRing base r _ rfl)

end Sys2Proof.Machine
end

section
/-! PROOFS. SETUP and the start of a load (sections 10.2 and 10.3): what a write of SETUP and a RUN do in each part
state, and the address from which a load reads. -/

namespace Sys2Proof.Machine

/-- Taking the low six bits as 0 rounds down to a multiple of 64 (R192). -/
theorem toNat_and_setupMask (v : Word) : (v &&& 0xFFFFFFC0).toNat = v.toNat / 64 * 64 := by
  have hmask : v &&& (0xFFFFFFC0 : Word) = v >>> 6 <<< 6 := (BitVec.shiftLeft_ushiftRight (x := v) (n := 6)).symm
  rw [hmask, BitVec.toNat_shiftLeft, BitVec.toNat_ushiftRight, Nat.shiftRight_eq_div_pow, Nat.shiftLeft_eq]
  have := v.isLt
  omega

/-! ### A write of SETUP (R192) -/

theorem exec_setupWrite (v : Word) (s : State) : exec (.setupWrite v) s = .next (s.writeSetup v) := rfl

theorem State.writeSetup_of_idle_or_halted {s : State} (v : Word) (hpart : s.part = .idle ∨ s.part = .halted) :
    s.writeSetup v = s.withHost { s.host with setupAddr := v &&& 0xFFFFFFC0 } := by
  rcases hpart with hidle | hhalted
  · simp only [State.writeSetup, hidle]
  · simp only [State.writeSetup, hhalted]

theorem State.writeSetup_of_loading_or_running_or_resetting {s : State} (v : Word)
    (hpart : s.part = .loading ∨ s.part = .running ∨ s.part = .resetting) : s.writeSetup v = s := by
  rcases hpart with hloading | hrunning | hresetting
  · simp only [State.writeSetup, hloading]
  · simp only [State.writeSetup, hrunning]
  · simp only [State.writeSetup, hresetting]

/-- A write of SETUP leaves everything but the setup address (R192). -/
theorem State.writeSetup_frame (s : State) (v : Word) :
    s.writeSetup v = s.withHost { s.host with setupAddr := (s.writeSetup v).host.setupAddr } := by
  cases hpart : s.part with
  | idle => rw [State.writeSetup_of_idle_or_halted v (.inl hpart), State.withHost_host]
  | halted => rw [State.writeSetup_of_idle_or_halted v (.inr hpart), State.withHost_host]
  | loading => rw [State.writeSetup_of_loading_or_running_or_resetting v (.inl hpart), State.withHost_self]
  | running => rw [State.writeSetup_of_loading_or_running_or_resetting v (.inr (.inl hpart)), State.withHost_self]
  | resetting => rw [State.writeSetup_of_loading_or_running_or_resetting v (.inr (.inr hpart)), State.withHost_self]

/-! ### A setup load begins (R191, R193) -/

/-- A load from an address that leaves room for the block starts the read of the block there (R193). -/
theorem State.beginLoad_of_addr_le {s : State} (origin : LoadOrigin)
    (haddr : s.host.setupAddr.toNat ≤ 0xFFFFFF80) :
    s.beginLoad origin = s.withHost { s.host with
      part := .loading, origin := origin, setupData := none,
      setupRead := some ⟨s.host.setupAddr.toNat, false⟩ } := by
  simp only [State.beginLoad, Nat.not_lt.mpr haddr, if_false, State.withHost_host, State.withHost_withHost]

theorem exec_ctrlRun (v : Word) (s : State) : exec (.ctrlRun v) s = .next (s.writeCtrl v) := rfl

/-- RUN without RESET begins a load in IDLE and HALTED, which keeps where it began (R191). -/
theorem State.writeCtrl_of_run {s : State} {v : Word} (hpart : s.part = .idle ∨ s.part = .halted)
    (hrun : v.getLsbD 0 = true) (hreset : v.getLsbD 1 = false) :
    s.writeCtrl v = s.beginLoad (if s.part = .idle then .idle else .halted) := by
  rcases hpart with hidle | hhalted
  · simp only [State.writeCtrl, hidle, hrun, hreset, Bool.false_eq_true, reduceCtorEq, if_false, if_true]
  · simp only [State.writeCtrl, hhalted, hrun, hreset, Bool.false_eq_true, reduceCtorEq, if_false, if_true]

/-- Settles O9: the part states split as `State.writeSetup` does, and RUN reads from the setup address that a read of
SETUP returns. -/
theorem setupWriteSetsTheSetupAddress : Obligations.SetupWriteSetsTheSetupAddress := by
  intro s v
  refine ⟨⟨s.writeSetup v, exec_setupWrite v s, s.writeSetup_frame v, fun hpart => ?_, fun hpart => ?_⟩, rfl,
    fun hpart hrun hreset haddr => ?_⟩
  · rw [State.writeSetup_of_idle_or_halted v hpart]
    exact toNat_and_setupMask v
  · exact State.writeSetup_of_loading_or_running_or_resetting v hpart
  · rw [exec_ctrlRun, State.writeCtrl_of_run hpart hrun hreset, State.beginLoad_of_addr_le _ haddr]
    exact ⟨_, rfl, rfl, rfl⟩

end Sys2Proof.Machine
end

section
/-! PROOFS. Tables: the lowest-numbered record that satisfies a condition, and tables as a whole. -/

namespace Sys2Proof.Machine

theorem findFrom_eq_findIdx? {α : Type} (p : α → Bool) (l : List α) (k : Nat) :
    findFrom p l k = (l.findIdx? p).map (· + k) := by
  induction l generalizing k with
  | nil => rfl
  | cons x xs ih =>
    rw [findFrom, List.findIdx?_cons, ih]
    split
    · simp
    · simp [Function.comp_def, Nat.add_assoc, Nat.add_comm 1]

/-- The lowest-numbered record: it satisfies the condition, and none below it does. -/
theorem lowest_eq_some_iff {α : Type} {n : Nat} {p : α → Bool} {v : Vector α n} {i : Fin n} :
    lowest p v = some i ↔ p v[i.1] = true ∧ ∀ j : Fin n, j < i → p v[j.1] = false := by
  unfold lowest
  simp only [findFrom_eq_findIdx?, Nat.add_zero, Option.map_id']
  cases hfind : v.toList.findIdx? p with
  | none =>
    simp only [List.findIdx?_eq_none_iff, Vector.mem_toList_iff] at hfind
    simp [hfind v[i.1] (Vector.getElem_mem i.2)]
  | some k =>
    obtain ⟨hk, hpk, hbelow⟩ := List.findIdx?_eq_some_iff_getElem.mp hfind
    simp only [Vector.length_toList, Vector.getElem_toList] at hk hpk hbelow
    simp only [hk, dif_pos, Option.some.injEq]
    constructor
    · rintro rfl
      exact ⟨hpk, fun j hj => by simpa using hbelow j.1 hj⟩
    · rintro ⟨hpi, hbelow'⟩
      rcases lt_trichotomy k i.1 with hlt | rfl | hlt
      · exact absurd hpk (by simp [hbelow' ⟨k, hk⟩ hlt])
      · rfl
      · exact absurd hpi (by simpa using hbelow i.1 hlt)

theorem lowest_eq_none_iff {α : Type} {n : Nat} {p : α → Bool} {v : Vector α n} :
    lowest p v = none ↔ ∀ i : Fin n, p v[i.1] = false := by
  unfold lowest
  simp only [findFrom_eq_findIdx?, Nat.add_zero, Option.map_id']
  cases hfind : v.toList.findIdx? p with
  | none =>
    simp only [List.findIdx?_eq_none_iff, Vector.mem_toList_iff] at hfind
    simpa using fun i : Fin n => hfind v[i.1] (Vector.getElem_mem i.2)
  | some k =>
    obtain ⟨hk, hpk, -⟩ := List.findIdx?_eq_some_iff_getElem.mp hfind
    simp only [Vector.length_toList, Vector.getElem_toList] at hk hpk
    simpa [hk] using ⟨⟨k, hk⟩, hpk⟩

/-- Tables with equal records are equal. -/
theorem table_ext {α : Type} {n : Nat} {v w : Vector α n} (h : ∀ i : Fin n, v[i.1] = w[i.1]) : v = w :=
  Vector.ext fun i hi => h ⟨i, hi⟩

theorem recordNumber_eq_some {n k : Nat} {i : Fin n} (h : k = i.1) : recordNumber n k = some i := by
  subst h
  simp [recordNumber]

theorem recordNumber_eq_none {n k : Nat} (h : n ≤ k) : recordNumber n k = none := by
  simp [recordNumber, h]

end Sys2Proof.Machine
end

section
/-! PROOFS. The reclaim list and the fetch in progress (sections 1.3 to 1.5): every operation of the Glyph Table keeps
the list the unpinned RESIDENT slots, and the slot of the fetch FILLING. -/

namespace Sys2Proof.Machine

namespace GlyphTable

/-- The reclaim list holds, slot `n` aside, exactly the RESIDENT slots without pins, each once (R9). -/
def ListedOff (n : SlotId) (g : GlyphTable) : Prop :=
  (∀ m : SlotId, m ≠ n → (m ∈ g.reclaim ↔ g.slots[m].state = .resident ∧ g.slots[m].pins = 0)) ∧ g.reclaim.Nodup

/-- The reclaim list holds exactly the RESIDENT slots without pins, each once (R9). -/
def Listed (g : GlyphTable) : Prop :=
  (∀ m : SlotId, m ∈ g.reclaim ↔ g.slots[m].state = .resident ∧ g.slots[m].pins = 0) ∧ g.reclaim.Nodup

/-- The slot of the fetch in progress is FILLING (R17). -/
def FetchFills (g : GlyphTable) : Prop := ∀ f, g.fetch = some f → g.slots[f.slot].state = .filling

/-- What `State.ReclaimAgrees` says of the Glyph Table. -/
def Agrees (g : GlyphTable) : Prop := g.Listed ∧ g.FetchFills

variable {g : GlyphTable} {n : SlotId}

/-! ### The list, one slot aside -/

theorem Listed.off (h : g.Listed) (n : SlotId) : g.ListedOff n := ⟨fun m _ => h.1 m, h.2⟩

theorem Listed.not_mem (h : g.Listed) (hn : g.slots[n].state ≠ .resident) : n ∉ g.reclaim :=
  fun hmem => hn ((h.1 n).mp hmem).1

theorem ListedOff.listed (h : g.ListedOff n)
    (hn : n ∈ g.reclaim ↔ g.slots[n].state = .resident ∧ g.slots[n].pins = 0) : g.Listed := by
  refine ⟨fun m => ?_, h.2⟩
  by_cases hm : m = n
  · rwa [hm]
  · exact h.1 m hm

theorem ListedOff.setSlot (h : g.ListedOff n) (k : Slot) : (g.setSlot n k).ListedOff n :=
  ⟨fun m hm => by simpa [GlyphTable.setSlot, update_get, hm] using h.1 m hm, h.2⟩

theorem ListedOff.unlist (h : g.ListedOff n) : (g.unlist n).ListedOff n :=
  ⟨fun m hm => by simpa [GlyphTable.unlist, hm] using h.1 m hm, h.2.filter _⟩

theorem ListedOff.listLast (h : g.ListedOff n) : (g.listLast n).ListedOff n := by
  refine ⟨fun m hm => by simpa [GlyphTable.listLast, hm] using h.1 m hm, ?_⟩
  exact List.nodup_append.mpr ⟨h.2.filter _, List.nodup_singleton n, by simp +contextual⟩

@[simp] theorem not_mem_unlist : n ∉ (g.unlist n).reclaim := by simp [GlyphTable.unlist]
@[simp] theorem mem_listLast : n ∈ (g.listLast n).reclaim := by simp [GlyphTable.listLast]
@[simp] theorem setSlot_reclaim (k : Slot) : (g.setSlot n k).reclaim = g.reclaim := rfl
@[simp] theorem setSlot_fetch (k : Slot) : (g.setSlot n k).fetch = g.fetch := rfl
@[simp] theorem setSlot_queue (k : Slot) : (g.setSlot n k).queue = g.queue := rfl
@[simp] theorem setSlot_self (k : Slot) : (g.setSlot n k).slots[n.1] = k := by simp [GlyphTable.setSlot]
@[simp] theorem unlist_slots : (g.unlist n).slots = g.slots := rfl
@[simp] theorem unlist_fetch : (g.unlist n).fetch = g.fetch := rfl
@[simp] theorem listLast_slots : (g.listLast n).slots = g.slots := rfl
@[simp] theorem listLast_fetch : (g.listLast n).fetch = g.fetch := rfl

theorem setSlot_get (k : Slot) (m : SlotId) :
    (g.setSlot n k).slots[m.1] = if m = n then k else g.slots[m.1] := by
  simp [GlyphTable.setSlot, update_get]

/-- A slot record replaced by one in the same state and with the same pins leaves the list as it should be. -/
theorem Listed.setSlot (h : g.Listed) {k : Slot} (hk : k.state = .resident ∧ k.pins = 0 ↔
    g.slots[n].state = .resident ∧ g.slots[n].pins = 0) : (g.setSlot n k).Listed :=
  ((h.off n).setSlot k).listed (by simpa [hk] using h.1 n)

/-- A slot record of another state than RESIDENT, off the list. -/
theorem ListedOff.setSlot_of_not_resident (h : g.ListedOff n) (hn : n ∉ g.reclaim) {k : Slot}
    (hk : k.state ≠ .resident) : (g.setSlot n k).Listed :=
  (h.setSlot k).listed (by simp [hn, hk])

/-- The fetch in progress is not touched by a change of a slot that keeps FILLING slots FILLING. -/
theorem FetchFills.setSlot (h : g.FetchFills) {k : Slot} (hk : g.slots[n].state = .filling → k.state = .filling) :
    (g.setSlot n k).FetchFills := by
  intro f hf
  have hfill := h f hf
  by_cases hm : f.slot = n
  · subst hm; simpa using hk hfill
  · simpa [setSlot_get, hm] using hfill

theorem Agrees.setSlot (h : g.Agrees) {k : Slot} (hstate : k.state = g.slots[n].state)
    (hpins : k.pins = g.slots[n].pins) : (g.setSlot n k).Agrees :=
  ⟨h.1.setSlot (by rw [hstate, hpins]), h.2.setSlot (by rw [hstate]; exact id)⟩

/-- A table that differs in none of the slots, the list and the fetch. -/
theorem Agrees.congr {g' : GlyphTable} (h : g.Agrees) (hslots : g'.slots = g.slots)
    (hreclaim : g'.reclaim = g.reclaim) (hfetch : g'.fetch = g.fetch) : g'.Agrees := by
  simpa only [Agrees, Listed, FetchFills, hslots, hreclaim, hfetch] using h

theorem Agrees.withQueue (h : g.Agrees) (l : List GlyphRequest) : ({ g with queue := l } : GlyphTable).Agrees :=
  h.congr rfl rfl rfl

/-! ### Pins (R8) -/

theorem pin_slots (g : GlyphTable) (n : SlotId) :
    (g.pin n).slots = update g.slots n { g.slots[n] with pins := g.slots[n].pins + 1 } := by
  unfold GlyphTable.pin
  dsimp only
  split <;> rfl

@[simp] theorem pin_fetch (g : GlyphTable) (n : SlotId) : (g.pin n).fetch = g.fetch := by
  unfold GlyphTable.pin
  dsimp only
  split <;> rfl

theorem pin_reclaim (g : GlyphTable) (n : SlotId) : (g.pin n).reclaim =
    if g.slots[n].state = .resident ∧ g.slots[n].pins = 0 then g.reclaim.filter (· != n) else g.reclaim := by
  unfold GlyphTable.pin
  dsimp only
  split <;> rfl

theorem ListedOff.pin (h : g.ListedOff n) : (g.pin n).ListedOff n := by
  unfold GlyphTable.pin
  dsimp only
  split
  · exact (h.setSlot _).unlist
  · exact h.setSlot _

/-- A slot with a pin is off the list. -/
theorem Listed.pin (h : g.Listed) (n : SlotId) : (g.pin n).Listed := by
  refine (h.off n).pin.listed (iff_of_false ?_ (by simp [pin_slots]))
  rw [pin_reclaim]
  split
  · simp
  · rename_i hn
    rwa [h.1 n]

theorem FetchFills.pin (h : g.FetchFills) (n : SlotId) : (g.pin n).FetchFills := by
  have hset := h.setSlot (n := n) (k := { g.slots[n] with pins := g.slots[n].pins + 1 }) id
  intro f hf
  simpa [pin_slots, GlyphTable.setSlot] using hset f (by simpa using hf)

theorem Agrees.pin (h : g.Agrees) (n : SlotId) : (g.pin n).Agrees := ⟨h.1.pin n, h.2.pin n⟩

/-- A RESIDENT slot that loses its last pin joins the list, and one that has none stays on it. -/
theorem Agrees.unpin (h : g.Agrees) (n : SlotId) : (g.unpin n).Agrees := by
  have hset := (h.1.off n).setSlot { g.slots[n] with pins := g.slots[n].pins - 1 }
  have hfetch := h.2.setSlot (n := n) (k := { g.slots[n] with pins := g.slots[n].pins - 1 }) id
  unfold GlyphTable.unpin
  dsimp only
  split
  · rename_i hlast
    exact ⟨hset.listLast.listed (iff_of_true mem_listLast (by simp_all)), hfetch⟩
  · rename_i hlast
    refine ⟨hset.listed ((h.1.1 n).trans ?_), hfetch⟩
    simp only [Fin.getElem_fin, setSlot_self] at hlast ⊢
    refine and_congr_right fun hresident => ?_
    have : g.slots[n.1].pins ≠ 1 := fun h => hlast ⟨hresident, h⟩
    omega

theorem Agrees.unpinAll (slots : List (Option SlotId)) : ∀ {g : GlyphTable}, g.Agrees →
    (GlyphTable.unpinAll slots g).Agrees := by
  induction slots with
  | nil => exact id
  | cons x rest ih =>
    intro g h
    cases x with
    | none => exact ih h
    | some n => exact ih (h.unpin n)

/-- An answer with a slot leaves the fetch, and every slot in its state. -/
theorem Agrees.hit (h : g.Agrees) (who : Requester) (n : SlotId) : (g.hit who n).Agrees := by
  unfold GlyphTable.hit
  split
  · exact h.pin n
  · split
    · rename_i hlisted
      exact ⟨(h.1.off n).listLast.listed (iff_of_true mem_listLast (by simpa using (h.1.1 n).mp hlisted.2)), h.2⟩
    · exact h

/-! ### Allocation and fetches (R16 to R18) -/

/-- What an allocation gives (R17): the slot is off the list and not FILLING, the rest of the list as it should
be, and the fetch in progress as it was. -/
theorem Agrees.allocate (h : g.Agrees) {g' : GlyphTable} (ha : g.allocate = some (n, g')) :
    g'.ListedOff n ∧ n ∉ g'.reclaim ∧ g'.slots[n].state ≠ .filling ∧ g'.FetchFills ∧ g'.fetch = g.fetch := by
  unfold GlyphTable.allocate at ha
  split at ha
  · rename_i m hfree
    obtain ⟨rfl, rfl⟩ : m = n ∧ g = g' := by simpa using ha
    have hstate : g.slots[m].state = .free := by simpa using (lowest_eq_some_iff.mp hfree).1
    exact ⟨h.1.off m, h.1.not_mem (hstate ▸ by decide), hstate ▸ by decide, h.2, rfl⟩
  · split at ha
    · simp at ha
    · rename_i m rest hreclaim
      obtain ⟨rfl, rfl⟩ := by simpa using ha
      have hresident := ((h.1.1 m).mp (by simp [hreclaim])).1
      have hnodup : m ∉ rest ∧ rest.Nodup := List.nodup_cons.mp (hreclaim ▸ h.1.2)
      refine ⟨⟨fun j hj => ?_, hnodup.2⟩, hnodup.1, by simpa using hresident ▸ (by decide), ?_, rfl⟩
      · simpa [setSlot_get, hj, hreclaim] using h.1.1 j
      · exact h.2.setSlot (n := m) (k := { g.slots[m] with key := none }) id

/-- A fetch begins in a slot that has been allocated (R17). -/
theorem ListedOff.beginFetch (h : g.ListedOff n) (hn : n ∉ g.reclaim) (q : GlyphRequest) :
    (g.beginFetch q n).Agrees := by
  refine ⟨h.setSlot_of_not_resident hn (k := { g.slots[n] with
    state := .filling, key := some q.key, waiters := [], defineWait := false }) (by simp), fun f hf => ?_⟩
  obtain rfl : _ = f := by simpa [GlyphTable.beginFetch] using hf
  simp [GlyphTable.beginFetch]

/-- The define commit leaves the slot USER or as it was (R25). -/
theorem Listed.defineInPlace (h : g.Listed) (n : SlotId) : (g.defineInPlace n).1.Listed := by
  unfold GlyphTable.defineInPlace
  dsimp only
  split
  · exact h.setSlot Iff.rfl
  · split
    · exact h
    · exact ((h.off n).setSlot _).unlist.listed (by simp)

theorem Agrees.defineInPlace (h : g.Agrees) (hn : g.slots[n].state ≠ .filling) : (g.defineInPlace n).1.Agrees := by
  refine ⟨h.1.defineInPlace n, ?_⟩
  unfold GlyphTable.defineInPlace
  dsimp only
  split
  · exact h.2.setSlot fun hfill => absurd hfill hn
  · split
    · exact h.2
    · exact h.2.setSlot fun hfill => absurd hfill hn

theorem Agrees.defineAllocate (h : g.Agrees) (key : Key) : (g.defineAllocate key).1.Agrees := by
  unfold GlyphTable.defineAllocate
  split
  · exact h
  · split
    · exact h
    · rename_i n g' ha
      obtain ⟨hoff, hn, hstate, hfetch, -⟩ := h.allocate ha
      exact ⟨hoff.setSlot_of_not_resident hn (by simp), hfetch.setSlot fun hfill => absurd hfill hstate⟩

theorem Agrees.startRequest (h : g.Agrees) (q : GlyphRequest) : (g.startRequest q).1.Agrees := by
  unfold GlyphTable.startRequest
  split
  · split
    · split
      · exact h.setSlot rfl rfl
      · exact h.setSlot rfl rfl
    · rename_i hstate
      split
      · exact h.defineInPlace hstate
      · exact h.hit _ _
  · split
    · exact h.defineAllocate _
    · split
      · exact h
      · rename_i ha
        obtain ⟨hoff, hn, -⟩ := h.allocate ha
        exact hoff.beginFetch hn q

theorem Agrees.startRequests (k : Nat) : ∀ {g : GlyphTable}, g.Agrees → (GlyphTable.startRequests k g).1.Agrees := by
  induction k with
  | zero => exact id
  | succ k ih =>
    intro g h
    unfold GlyphTable.startRequests
    split
    · exact ih ((h.withQueue _).startRequest _)
    · exact h

theorem Agrees.startQueue (h : g.Agrees) : g.startQueue.1.Agrees := h.startRequests _

theorem Agrees.request (h : g.Agrees) (q : GlyphRequest) : (g.request q).1.Agrees :=
  (h.withQueue _).startQueue

/-! ### Lookups (R12 to R15, R21) -/

theorem Agrees.lookupMapped (h : g.Agrees) (who : Requester) (n : SlotId) : (g.lookupMapped who n).1.Agrees := by
  unfold GlyphTable.lookupMapped
  split
  · exact h.setSlot rfl rfl
  · exact h.hit who n

theorem Agrees.lookup (h : g.Agrees) (who : Requester) (face : FaceId) (code : Half) :
    (g.lookup who face code).1.Agrees := by
  unfold GlyphTable.lookup
  dsimp only
  split
  · exact h
  · split
    · exact h.lookupMapped who _
    · split
      · exact h.request _
      · split
        · exact h.lookupMapped who _
        · split
          · exact h.request _
          · exact h

theorem Agrees.withdraw (h : g.Agrees) (who : Requester) : (g.withdraw who).Agrees := by
  refine ⟨⟨fun m => by simpa [GlyphTable.withdraw] using h.1.1 m, h.1.2⟩, fun f hf => ?_⟩
  simp only [GlyphTable.withdraw, Option.map_eq_some_iff] at hf
  obtain ⟨f', hf', rfl⟩ := hf
  have hslot : (if f'.who = some who then { f' with who := none } else f').slot = f'.slot := by split <;> rfl
  simpa [GlyphTable.withdraw, hslot] using h.2 f' hf'

/-! ### The end of a fill (R19, R20) -/

theorem ListedOff.answerSlot (l : List Requester) : ∀ {g : GlyphTable}, g.ListedOff n →
    (GlyphTable.answerSlot n l g).ListedOff n := by
  induction l with
  | nil => exact id
  | cons who rest ih =>
    intro g h
    unfold GlyphTable.answerSlot
    split
    · exact ih h.pin
    · exact ih h

theorem answerSlot_state (l : List Requester) (g : GlyphTable) :
    (GlyphTable.answerSlot n l g).slots[n].state = g.slots[n].state := by
  induction l generalizing g with
  | nil => rfl
  | cons who rest ih =>
    unfold GlyphTable.answerSlot
    rw [ih]
    split <;> simp [pin_slots]

theorem not_mem_answerSlot (l : List Requester) : ∀ {g : GlyphTable}, n ∉ g.reclaim →
    n ∉ (GlyphTable.answerSlot n l g).reclaim := by
  induction l with
  | nil => exact id
  | cons who rest ih =>
    intro g h
    unfold GlyphTable.answerSlot
    refine ih ?_
    split
    · rw [pin_reclaim]
      split
      · simp
      · exact h
    · exact h

/-- Once a fill has answered its audience, its slot is on the list where nothing has pinned it (R19). -/
theorem ListedOff.listed_of_resident (h : g.ListedOff n) (hn : n ∉ g.reclaim) (hstate : g.slots[n].state = .resident) :
    (if g.slots[n].pins = 0 then g.listLast n else g).Listed := by
  split
  · rename_i hpins
    exact h.listLast.listed (iff_of_true mem_listLast ⟨hstate, hpins⟩)
  · rename_i hpins
    exact h.listed (iff_of_false hn fun hboth => hpins hboth.2)

/-- With no fetch in progress the list is all there is to agree. -/
theorem Listed.agrees_of_no_fetch (h : g.Listed) : ({ g with fetch := none } : GlyphTable).Agrees :=
  ⟨h, fun _ hf => by simp at hf⟩

theorem Agrees.filled (h : g.Agrees) {f : GlyphFetch} (hf : g.fetch = some f) (bytes : List Byte) :
    (g.filled f bytes).1.Agrees := by
  have hfill := h.2 f hf
  have hn : f.slot ∉ g.reclaim := h.1.not_mem (hfill ▸ by decide)
  have hoff : (answerSlot f.slot (g.fillAudience f) (g.setSlot f.slot { g.slots[f.slot] with
      state := .resident, bitmap := bitmapOf (halvesOf (f.read.len / 2) bytes), waiters := [],
      defineWait := false })).ListedOff f.slot := ((h.1.off f.slot).setSlot _).answerSlot _
  unfold GlyphTable.filled
  dsimp only
  generalize hg2 : answerSlot f.slot _ _ = g2 at hoff ⊢
  have hstate : g2.slots[f.slot].state = .resident := by
    rw [← hg2, answerSlot_state]
    simp
  have hn2 : f.slot ∉ g2.reclaim := by
    rw [← hg2]
    exact not_mem_answerSlot _ hn
  have hlisted := hoff.listed_of_resident hn2 hstate
  generalize hg3 : (if g2.slots[f.slot].pins = 0 then g2.listLast f.slot else g2) = g3 at hlisted ⊢
  split
  · exact (hlisted.defineInPlace _).agrees_of_no_fetch.startQueue
  · exact hlisted.agrees_of_no_fetch.startQueue

theorem Agrees.fillFailed (h : g.Agrees) {f : GlyphFetch} (hf : g.fetch = some f) : (g.fillFailed f).1.Agrees := by
  have hn : f.slot ∉ g.reclaim := h.1.not_mem (h.2 f hf ▸ by decide)
  have hfreed := ((h.1.off f.slot).setSlot_of_not_resident hn (k := { g.slots[f.slot] with
    state := .free, key := none, waiters := [], defineWait := false }) (by simp)).agrees_of_no_fetch
  unfold GlyphTable.fillFailed
  dsimp only
  refine Agrees.startQueue ?_
  split
  · exact hfreed.congr rfl rfl rfl
  · exact hfreed

theorem Agrees.fillEnds (h : g.Agrees) (read : ReadEnd) : (g.fillEnds read).1.Agrees := by
  unfold GlyphTable.fillEnds
  split
  · exact h
  · exact h.filled ‹_› _
  · exact h.fillFailed ‹_›

/-! ### Faces, defines and releases (R3, R4, R25, R27), halts (R29) -/

theorem Agrees.freeFace (h : g.Agrees) (face : FaceId) : (g.freeFace face).Agrees := by
  refine ⟨⟨fun m => ?_, h.1.2.filter _⟩, fun f hf => ?_⟩
  · have hm := h.1.1 m
    by_cases howned : ofFace face g.slots[m] = true
    · simp_all [GlyphTable.freeFace]
    · simp_all [GlyphTable.freeFace]
  · have hfill := h.2 f hf
    have howned : ofFace face g.slots[f.slot] = false := by rw [GlyphTable.ofFace, hfill]; exact Bool.and_false _
    simp_all [GlyphTable.freeFace]

theorem Agrees.loadFace (h : g.Agrees) (a : FaceLoadArgs) : (g.loadFace a).1.Agrees := by
  unfold GlyphTable.loadFace
  split
  · split
    · exact h
    · split
      · exact h.congr rfl rfl rfl
      · split
        · exact h
        · exact (h.freeFace _).congr rfl rfl rfl
  · exact h

theorem Agrees.dropFace (h : g.Agrees) (number : Nat) : (g.dropFace number).1.Agrees := by
  unfold GlyphTable.dropFace
  split
  · exact h
  · split
    · exact h
    · split
      · exact h
      · exact (h.freeFace _).congr rfl rfl rfl

theorem Agrees.defineCommit (h : g.Agrees) (key : Key) : (g.defineCommit key).1.Agrees := by
  unfold GlyphTable.defineCommit
  split
  · split
    · exact h.setSlot rfl rfl
    · exact h.defineInPlace ‹_›
  · exact h.request _

theorem Agrees.release (h : g.Agrees) (number : Nat) (code : Half) : (g.release number code).1.Agrees := by
  unfold GlyphTable.release
  split
  · exact h
  · split
    · exact h
    · rename_i n _
      dsimp only
      split
      · exact h
      · split
        · exact h
        · rename_i huser _
          have huser : g.slots[n].state = .user := not_not.mp huser
          refine ⟨?_, h.2.setSlot fun hfill => absurd (hfill.symm.trans huser) (by decide)⟩
          exact (h.1.off n).setSlot_of_not_resident (h.1.not_mem (huser ▸ by decide)) (by simp)

theorem Agrees.abandon (h : g.Agrees) : g.abandon.Agrees := by
  have hwithdrawn := (h.withdraw .preload).withdraw .define
  unfold GlyphTable.abandon
  refine Agrees.congr (g := ((g.withdraw .preload).withdraw .define).clearDefineWaits) ?_ rfl rfl rfl
  exact ⟨⟨fun m => by simpa [GlyphTable.clearDefineWaits] using hwithdrawn.1.1 m, hwithdrawn.1.2⟩,
    fun f hf => by simpa [GlyphTable.clearDefineWaits] using hwithdrawn.2 f hf⟩

end GlyphTable

end Sys2Proof.Machine
end

section
/-! PROOFS. What one handling keeps of the Surface Table's holds and of the reclaim list (sections 1.3, 4.3, 5.6):
every operation of the Glyph Table, the Lane Unit and the Raster Engine, and so the running of their tasks. -/

namespace Sys2Proof.Machine

/-- From `b` to `b'` no scan hold changes, and the reclaim list and the fetch in progress stay as they should be. -/
structure Blocks.Keeps (b b' : Blocks) : Prop where
  holds : ∀ n : SurfaceId, b'.surfaces[n].hold = b.surfaces[n].hold
  agrees : b.glyph.Agrees → b'.glyph.Agrees

namespace Blocks

variable {b b' : Blocks}

theorem Keeps.refl (b : Blocks) : b.Keeps b := ⟨fun _ => rfl, id⟩

theorem Keeps.trans {b'' : Blocks} (h : b.Keeps b') (h' : b'.Keeps b'') : b.Keeps b'' :=
  ⟨fun n => (h'.holds n).trans (h.holds n), fun hg => h'.agrees (h.agrees hg)⟩

/-- A change of the Glyph Table that keeps its list as it should be. -/
theorem Keeps.onGlyph (hs : b'.surfaces = b.surfaces) (hg : b.glyph.Agrees → b'.glyph.Agrees) : b.Keeps b' :=
  ⟨fun n => by rw [hs], hg⟩

/-- What the holds and the reclaim list depend on: the slots, the list, the fetch in progress and the surfaces. -/
def held (b : Blocks) : Vector Slot 384 × List SlotId × Option GlyphFetch × Vector Surface 16 :=
  (b.glyph.slots, b.glyph.reclaim, b.glyph.fetch, b.surfaces)

/-- A change of other fields. -/
theorem Keeps.elsewhere (h : b'.held = b.held) : b.Keeps b' := by
  simp only [held, Prod.mk.injEq] at h
  obtain ⟨hslots, hreclaim, hfetch, hs⟩ := h
  exact .onGlyph hs fun hg => hg.congr hslots hreclaim hfetch

theorem Keeps.of_elsewhere {b'' : Blocks} (h : b'.Keeps b'') (h' : b'.held = b.held) : b.Keeps b'' :=
  .trans (.elsewhere h') h

/-! ### The Raster Engine -/

theorem setMark_keeps (b : Blocks) (n : Option SurfaceId) (mark : Bool) : b.Keeps (b.setMark n mark) := by
  unfold Blocks.setMark
  split
  · refine ⟨fun m => ?_, id⟩
    simp only [Fin.getElem_fin, update_get]
    split
    · rename_i h; rw [h]
    · rfl
  · exact .refl b

theorem unpinStamp_keeps (b : Blocks) : b.Keeps b.unpinStamp := by
  unfold Blocks.unpinStamp
  split
  · exact .onGlyph rfl fun hg => hg.unpin _
  · exact .refl b
  · exact .refl b

theorem endOperation_keeps (b : Blocks) (c : Claim) (a : Answer) : b.Keeps (b.endOperation c a).1 :=
  ((b.setMark_keeps _ _).trans (setMark_keeps _ _ _)).trans (.elsewhere (by rfl))

theorem failOperation_keeps (b : Blocks) (c : Claim) : b.Keeps (b.failOperation c).1 :=
  b.unpinStamp_keeps.trans (endOperation_keeps _ _ _)

theorem lookupCode_keeps (b : Blocks) (c : Claim) : b.Keeps (b.lookupCode c).1 := by
  unfold Blocks.lookupCode
  dsimp only
  split
  · exact .onGlyph rfl fun hg => hg.lookup ..
  · exact .elsewhere rfl

theorem endStamp_keeps (b : Blocks) (c : Claim) : b.Keeps (b.endStamp c).1 := by
  unfold Blocks.endStamp
  dsimp only
  split
  · exact (b.unpinStamp_keeps.trans (.elsewhere (by rfl))).trans (lookupCode_keeps _ _)
  · exact b.unpinStamp_keeps.trans (endOperation_keeps _ _ _)

theorem endArea_keeps (b : Blocks) (c : Claim) : b.Keeps (b.endArea c).1 := by
  unfold Blocks.endArea
  split
  · exact b.endStamp_keeps c
  all_goals exact b.endOperation_keeps c _

theorem drawRows_keeps (b : Blocks) (c : Claim) (r : Nat) : b.Keeps (b.drawRows c r).1 := by
  unfold Blocks.drawRows
  dsimp only
  split
  · exact .elsewhere rfl
  · exact b.endArea_keeps c

theorem finishAbandoned_keeps (b : Blocks) : b.Keeps b.finishAbandoned := by
  unfold Blocks.finishAbandoned
  dsimp only
  split
  · exact ((b.unpinStamp_keeps.trans (setMark_keeps _ _ _)).trans (setMark_keeps _ _ _)).trans (.elsewhere (by rfl))
  · exact b.unpinStamp_keeps.trans (.elsewhere (by rfl))

theorem nextPixel_keeps (b : Blocks) (c : Claim) (d : Drawing) : b.Keeps (b.nextPixel c d).1 := by
  unfold Blocks.nextPixel
  dsimp only
  split
  · exact .elsewhere rfl
  · split
    · exact b.finishAbandoned_keeps
    · exact b.drawRows_keeps c _

theorem transferEnded_keeps (b : Blocks) (c : Claim) (d : Drawing) (byte : Byte) :
    b.Keeps (b.transferEnded c d byte).1 := by
  unfold Blocks.transferEnded
  dsimp only
  split
  · split
    · exact .elsewhere rfl
    · exact b.nextPixel_keeps c d
  · exact .elsewhere rfl
  · exact b.nextPixel_keeps c d

theorem transferFailed_keeps (b : Blocks) (c : Claim) : b.Keeps (b.transferFailed c).1 := by
  unfold Blocks.transferFailed
  split
  · exact b.finishAbandoned_keeps
  · exact b.failOperation_keeps c

theorem codesRead_keeps (b : Blocks) (c : Claim) (read : ReadEnd) : b.Keeps (b.codesRead c read).1 := by
  unfold Blocks.codesRead
  split
  · exact .of_elsewhere (lookupCode_keeps _ c) (by rfl)
  · exact .of_elsewhere (failOperation_keeps _ c) (by rfl)

theorem textAnswered_keeps (b : Blocks) (a : LookupAnswer) : b.Keeps (b.textAnswered a).1 := by
  unfold Blocks.textAnswered
  split
  · exact .refl b
  · split
    · exact .of_elsewhere (drawRows_keeps _ _ _) (by rfl)
    · exact .of_elsewhere (drawRows_keeps _ _ _) (by rfl)
    · exact .of_elsewhere (drawRows_keeps _ _ _) (by rfl)
    · exact .of_elsewhere (drawRows_keeps _ _ _) (by rfl)
    · exact b.failOperation_keeps _

theorem beginOperation_keeps (b : Blocks) (c : Claim) : b.Keeps (b.beginOperation c).1 := by
  have hmarked := (b.setMark_keeps c.entry.rasterArgs.dst true).trans (setMark_keeps _ c.entry.rasterArgs.src true)
  unfold Blocks.beginOperation
  dsimp only
  split
  · exact (hmarked.trans (.elsewhere (by rfl))).trans (drawRows_keeps _ _ _)
  · exact (hmarked.trans (.elsewhere (by rfl))).trans (drawRows_keeps _ _ _)
  · exact (hmarked.trans (.elsewhere (by rfl))).trans (drawRows_keeps _ _ _)
  · exact hmarked.trans (.elsewhere (by rfl))

theorem takeClaim_keeps (b : Blocks) : b.Keeps b.takeClaim.1 := by
  unfold Blocks.takeClaim
  split
  · dsimp only
    split
    · exact .elsewhere rfl
    · exact .of_elsewhere (beginOperation_keeps _ _) (by rfl)
  · exact .refl b

theorem haltRaster_keeps (b : Blocks) : b.Keeps b.haltRaster := by
  unfold Blocks.haltRaster
  split
  · exact .elsewhere rfl
  · exact (Keeps.onGlyph (by rfl) fun hg => hg.withdraw _).trans (finishAbandoned_keeps _)
  · exact .of_elsewhere (finishAbandoned_keeps _) (by rfl)
  · exact .of_elsewhere (finishAbandoned_keeps _) (by rfl)

/-! ### The Lane Unit -/

theorem laneAnswer_keeps (b : Blocks) (r : RingId) (a : Answer) : b.Keeps (b.laneAnswer r a).1 := .elsewhere rfl

theorem commitEdit_keeps (b : Blocks) (v : LaneService) : b.Keeps (b.commitEdit v).1 := by
  unfold Blocks.commitEdit
  dsimp only
  split
  · exact .elsewhere rfl
  · exact .onGlyph rfl fun hg => hg.unpinAll _

theorem dropStaging_keeps (b : Blocks) (v : LaneService) : b.Keeps (b.dropStaging v) := by
  unfold Blocks.dropStaging
  dsimp only
  split
  · exact .onGlyph rfl fun hg => (hg.withdraw _).unpinAll _
  · exact .onGlyph rfl fun hg => hg.unpinAll _

theorem abandonEdit_keeps (b : Blocks) (v : LaneService) : b.Keeps (b.abandonEdit v).1 :=
  (b.dropStaging_keeps v).trans (laneAnswer_keeps _ _ _)

theorem stepEdit_keeps (b : Blocks) (v : LaneService) : b.Keeps (b.stepEdit v).1 := by
  unfold Blocks.stepEdit
  split
  · exact .elsewhere rfl
  · exact .onGlyph rfl fun hg => hg.lookup ..
  · split
    · exact b.commitEdit_keeps v
    · exact .elsewhere rfl

theorem laneAnswered_keeps (b : Blocks) (a : LookupAnswer) : b.Keeps (b.laneAnswered a).1 := by
  unfold Blocks.laneAnswered
  split
  · exact .refl b
  · split
    · exact .refl b
    · split
      · exact b.abandonEdit_keeps _
      · exact .of_elsewhere (stepEdit_keeps _ _) (by rfl)

theorem startEdit_keeps (b : Blocks) (edit : EditKind) (r : RingId) (e : WorkEntry) :
    b.Keeps (b.startEdit edit r e).1 := by
  unfold Blocks.startEdit
  dsimp only
  split
  · exact .elsewhere rfl
  · split
    · exact .elsewhere rfl
    · split
      · exact .elsewhere rfl
      · split
        · exact .elsewhere rfl
        · exact .elsewhere rfl

theorem startRefresh_keeps (b : Blocks) (r : RingId) (e : WorkEntry) : b.Keeps (b.startRefresh r e).1 := by
  unfold Blocks.startRefresh
  dsimp only
  split
  · exact .elsewhere rfl
  · split
    · exact .elsewhere rfl
    · exact .of_elsewhere (stepEdit_keeps _ _) (by rfl)

theorem cellListRead_keeps (b : Blocks) (read : CellRead) : b.Keeps (b.cellListRead read).1 := by
  unfold Blocks.cellListRead
  split
  · exact .refl b
  · split
    · exact .refl b
    · split
      · exact b.stepEdit_keeps _
      · exact b.stepEdit_keeps _
      · exact b.abandonEdit_keeps _

theorem laneText_keeps (b : Blocks) (r : RingId) (e : WorkEntry) : b.Keeps (b.laneText r e).1 := by
  unfold Blocks.laneText
  split
  · exact b.startEdit_keeps _ r e
  · exact b.startEdit_keeps _ r e
  · unfold Blocks.laneDelete
    dsimp only
    split
    · exact .elsewhere rfl
    · split
      · exact .elsewhere rfl
      · exact .onGlyph rfl fun hg => hg.unpinAll _
  · unfold Blocks.laneClear
    dsimp only
    split
    · exact .elsewhere rfl
    · exact .onGlyph rfl fun hg => hg.unpinAll _
  · unfold Blocks.laneCursor
    dsimp only
    split
    · exact .elsewhere rfl
    · split
      · exact .elsewhere rfl
      · exact .elsewhere rfl
  · exact .elsewhere rfl

theorem laneVisibility_keeps (b : Blocks) (v : Visibility) (r : RingId) (e : WorkEntry) :
    b.Keeps (b.laneVisibility v r e).1 := by
  unfold Blocks.laneVisibility
  split
  · exact .elsewhere rfl
  · exact .elsewhere rfl

theorem laneView_keeps (b : Blocks) (r : RingId) (e : WorkEntry) : b.Keeps (b.laneView r e).1 := by
  unfold Blocks.laneView
  split
  · exact b.laneVisibility_keeps _ r e
  · exact b.laneVisibility_keeps _ r e
  · exact b.startRefresh_keeps r e
  · unfold Blocks.laneRelease
    dsimp only
    split
    · exact .elsewhere rfl
    · exact .onGlyph rfl fun hg => hg.unpinAll _
  · exact .elsewhere rfl

theorem laneMove_keeps (b : Blocks) (allowed : Lane → Bool) (f : Lane → Lane) (r : RingId) (e : WorkEntry) :
    b.Keeps (b.laneMove allowed f r e).1 := by
  unfold Blocks.laneMove
  split
  · exact .elsewhere rfl
  · split
    · exact .elsewhere rfl
    · exact .elsewhere rfl

theorem laneMotion_keeps (b : Blocks) (r : RingId) (e : WorkEntry) : b.Keeps (b.laneMotion r e).1 := by
  unfold Blocks.laneMotion
  split
  all_goals first | exact b.laneMove_keeps _ _ r e | exact b.laneAnswer_keeps r _

theorem laneSet_keeps (b : Blocks) (r : RingId) (e : WorkEntry) : b.Keeps (b.laneSet r e).1 := by
  unfold Blocks.laneSet
  split
  · exact .elsewhere rfl
  · exact .elsewhere rfl

theorem serveLane_keeps (b : Blocks) (r : RingId) (e : WorkEntry) : b.Keeps (b.serveLane r e).1 := by
  unfold Blocks.serveLane
  split
  · exact b.laneSet_keeps r e
  · exact b.laneText_keeps r e
  · exact b.laneView_keeps r e
  · exact b.laneMotion_keeps r e
  · exact .refl b

theorem takeLane_keeps (b : Blocks) : b.Keeps b.takeLane.1 := by
  unfold Blocks.takeLane
  split
  · exact .of_elsewhere (serveLane_keeps _ _ _) (by rfl)
  · exact .refl b

theorem arriveLane_keeps (b : Blocks) (r : RingId) (e : WorkEntry) : b.Keeps (b.arriveLane r e).1 := by
  unfold Blocks.arriveLane
  split
  · exact b.serveLane_keeps r e
  · exact .elsewhere rfl

theorem haltLane_keeps (b : Blocks) : b.Keeps b.haltLane := by
  unfold Blocks.haltLane
  dsimp only
  split
  · exact (b.dropStaging_keeps _).trans (.elsewhere (by rfl))
  · exact .elsewhere rfl

/-! ### The Glyph Table's owned entries -/

theorem glyphEnd_keeps (b : Blocks) (a : Answer) : b.Keeps (b.glyphEnd a).1 := by
  unfold Blocks.glyphEnd
  split
  · exact .elsewhere rfl
  · exact .refl b

theorem changeFace_keeps (b : Blocks) (x : GlyphTable × Except Status FaceId) (hx : b.glyph.Agrees → x.1.Agrees) :
    b.Keeps (b.changeFace x).1 := by
  unfold Blocks.changeFace
  dsimp only
  split
  · exact .onGlyph rfl hx
  · exact .onGlyph rfl hx

theorem preloadLookup_keeps (b : Blocks) (v : GlyphService) : b.Keeps (b.preloadLookup v).1 := by
  unfold Blocks.preloadLookup
  split
  · exact .onGlyph rfl fun hg => hg.lookup ..
  · exact .refl b

theorem servePreload_keeps (b : Blocks) (v : GlyphService) : b.Keeps (b.servePreload v).1 := by
  unfold Blocks.servePreload
  split
  · exact .refl b
  · exact b.preloadLookup_keeps v

theorem preloadAnswered_keeps (b : Blocks) (a : LookupAnswer) : b.Keeps (b.preloadAnswered a).1 := by
  unfold Blocks.preloadAnswered
  split
  · exact .refl b
  · dsimp only
    split
    · split
      · exact .refl b
      · exact .of_elsewhere (preloadLookup_keeps _ _) (by rfl)
    all_goals exact .refl b

theorem serveDefine_keeps (b : Blocks) (v : GlyphService) : b.Keeps (b.serveDefine v).1 := by
  unfold Blocks.serveDefine
  dsimp only
  split
  · exact .elsewhere rfl
  all_goals exact .refl b

theorem defineReadEnds_keeps (b : Blocks) (read : ReadEnd) : b.Keeps (b.defineReadEnds read).1 := by
  unfold Blocks.defineReadEnds
  split
  · dsimp only
    split
    · exact .of_elsewhere (b' := { b with glyph := { b.glyph with staging := _, defineRead := none } })
        (.onGlyph rfl fun hg => hg.defineCommit _) (by rfl)
    · exact .elsewhere rfl
  · exact .refl b

theorem serveRelease_keeps (b : Blocks) (v : GlyphService) : b.Keeps (b.serveRelease v).1 :=
  .onGlyph rfl fun hg => hg.release _ _

theorem serveGlyph_keeps (b : Blocks) (r : RingId) (e : WorkEntry) : b.Keeps (b.serveGlyph r e).1 := by
  unfold Blocks.serveGlyph
  dsimp only
  split
  · exact .of_elsewhere (changeFace_keeps _ _ fun hg => hg.loadFace _) (by rfl)
  · exact .of_elsewhere (changeFace_keeps _ _ fun hg => hg.dropFace _) (by rfl)
  · exact .of_elsewhere (servePreload_keeps _ _) (by rfl)
  · exact .of_elsewhere (serveDefine_keeps _ _) (by rfl)
  · exact .of_elsewhere (serveRelease_keeps _ _) (by rfl)
  · exact .refl b

theorem takeGlyph_keeps (b : Blocks) : b.Keeps b.takeGlyph.1 := by
  unfold Blocks.takeGlyph
  split
  · exact .of_elsewhere (serveGlyph_keeps _ _ _) (by rfl)
  · exact .refl b

theorem arriveGlyph_keeps (b : Blocks) (r : RingId) (e : WorkEntry) : b.Keeps (b.arriveGlyph r e).1 := by
  unfold Blocks.arriveGlyph
  split
  · exact b.serveGlyph_keeps r e
  · exact .elsewhere rfl

/-! ### Tasks -/

theorem answered_keeps (b : Blocks) (who : Requester) (a : LookupAnswer) : b.Keeps (b.answered who a).1 := by
  cases who with
  | text => exact b.textAnswered_keeps a
  | laneEdit => exact b.laneAnswered_keeps a
  | preload => exact b.preloadAnswered_keeps a
  | define => exact .refl b

theorem doTask_keeps (b : Blocks) (t : Task) : b.Keeps (b.doTask t).1 := by
  cases t with
  | answered who a => exact b.answered_keeps who a
  | glyphEnd a => exact b.glyphEnd_keeps a
  | glyphTake => exact b.takeGlyph_keeps
  | laneTake => exact b.takeLane_keeps
  | rasterTake => exact b.takeClaim_keeps

theorem settle_keeps (n : Nat) : ∀ (tasks : List Task) (b : Blocks), b.Keeps (settle n tasks b) := by
  induction n with
  | zero => intro tasks b; cases tasks <;> exact .refl b
  | succ n ih =>
    intro tasks b
    cases tasks with
    | nil => exact .refl b
    | cons t rest => exact (b.doTask_keeps t).trans (ih _ _)

end Blocks

end Sys2Proof.Machine
end

section
/-! PROOFS. What every step keeps: frame memory but for pixel transfers, the report buffer within its 8 entries, the
setup address a multiple of 64, the scan holds as the backgrounds give them, and the reclaim list. -/

namespace Sys2Proof.Machine

theorem State.reclaimAgrees_iff (s : State) : s.ReclaimAgrees ↔ s.glyph.Agrees := and_assoc.symm

/-- From `s` to `t` frame memory is the same and the invariants, where they hold, go on holding. -/
structure State.Keeps (s t : State) : Prop where
  memory : t.frameMemory = s.frameMemory
  setupAddr : s.host.setupAddr.toNat % 64 = 0 → t.host.setupAddr.toNat % 64 = 0
  buffer : s.report.buffer.length ≤ Config.reportBufferSize → t.report.buffer.length ≤ Config.reportBufferSize
  holds : s.HoldsAgree → t.HoldsAgree
  agrees : s.glyph.Agrees → t.glyph.Agrees

namespace State

variable {s t u : State}

theorem Keeps.refl (s : State) : s.Keeps s := ⟨rfl, id, id, id, id⟩

theorem Keeps.ite {c : Prop} [Decidable c] (ht : s.Keeps t) (hu : s.Keeps u) : s.Keeps (if c then t else u) := by
  split
  · exact ht
  · exact hu

theorem Keeps.trans (h : s.Keeps t) (h' : t.Keeps u) : s.Keeps u :=
  ⟨h'.memory.trans h.memory, h'.setupAddr ∘ h.setupAddr, h'.buffer ∘ h.buffer, h'.holds ∘ h.holds,
    h'.agrees ∘ h.agrees⟩

/-- The holds follow the two backgrounds alone (R78). -/
theorem HoldsAgree.congr (h : s.HoldsAgree) (hs : ∀ n : SurfaceId, t.surfaces[n].hold = s.surfaces[n].hold)
    (hf : t.presentation.front = s.presentation.front)
    (hp : t.presentation.pending.map PendingBackground.background =
      s.presentation.pending.map PendingBackground.background) : t.HoldsAgree := by
  have hbind (u : PresentationUnit) : (u.pending.bind fun p => p.background.surface?) =
      (u.pending.map PendingBackground.background).bind Background.surface? := by cases u.pending <;> rfl
  intro n
  have hn := h n
  simp only [PresentationUnit.holdOf, hbind, State.surfaceAt] at hn ⊢
  rw [hs, hf, hp]
  exact hn

/-! ### Replacing a block -/

theorem Keeps.withHost (h : s.Keeps t) (v : HostPort) (hv : v.setupAddr = t.host.setupAddr) :
    s.Keeps (t.withHost v) :=
  h.trans ⟨rfl, by simp [hv], id, id, id⟩

theorem Keeps.withIntake (h : s.Keeps t) (v : IntakeUnit) : s.Keeps (t.withIntake v) := h.trans ⟨rfl, id, id, id, id⟩

/-- A change of the Report Unit that keeps the buffer within its entries. -/
theorem Keeps.withReport (h : s.Keeps t) (v : ReportUnit)
    (hv : t.report.buffer.length ≤ Config.reportBufferSize → v.buffer.length ≤ Config.reportBufferSize) :
    s.Keeps (t.withReport v) := h.trans ⟨rfl, id, hv, id, id⟩

theorem Keeps.withSync (h : s.Keeps t) (v : SyncTable) : s.Keeps (t.withSync v) := h.trans ⟨rfl, id, id, id, id⟩

/-- A change of the Glyph Table that keeps its list as it should be. -/
theorem Keeps.withGlyph (h : s.Keeps t) (v : GlyphTable) (hv : t.glyph.Agrees → v.Agrees) : s.Keeps (t.withGlyph v) :=
  h.trans ⟨rfl, id, id, id, hv⟩

/-- A change of the Surface Table that keeps the holds. -/
theorem Keeps.withSurfaces (h : s.Keeps t) (v : Vector Surface 16)
    (hv : t.HoldsAgree → ∀ n : SurfaceId, v[n].hold = t.surfaces[n].hold) : s.Keeps (t.withSurfaces v) :=
  h.trans ⟨rfl, id, id, fun hh => hh.congr (hv hh) rfl rfl, id⟩

theorem Keeps.withRaster (h : s.Keeps t) (v : RasterEngine) : s.Keeps (t.withRaster v) := h.trans ⟨rfl, id, id, id, id⟩

theorem Keeps.withLane (h : s.Keeps t) (v : LaneUnit) : s.Keeps (t.withLane v) := h.trans ⟨rfl, id, id, id, id⟩

/-- A change of the Presentation Unit that keeps the two backgrounds. -/
theorem Keeps.withPresentation (h : s.Keeps t) (v : PresentationUnit)
    (hf : v.front = t.presentation.front) (hp : v.pending.map PendingBackground.background =
      t.presentation.pending.map PendingBackground.background) : s.Keeps (t.withPresentation v) :=
  h.trans ⟨rfl, id, id, fun hh => hh.congr (fun _ => rfl) hf hp, id⟩

theorem Keeps.withFrame (h : s.Keeps t) (v : Option Frame) : s.Keeps (t.withFrame v) := h.trans ⟨rfl, id, id, id, id⟩

theorem Keeps.withTransit (h : s.Keeps t) (v : Transit) : s.Keeps (t.withTransit v) := h.trans ⟨rfl, id, id, id, id⟩

theorem Keeps.modRing (h : s.Keeps t) (r : RingId) (f : Ring → Ring) : s.Keeps (t.modRing r f) := h.withIntake _

theorem Keeps.modLane (h : s.Keeps t) (l : LaneId) (f : Lane → Lane) : s.Keeps (t.modLane l f) := h.withLane _

theorem Keeps.setEvent (h : s.Keeps t) (e : Event) : s.Keeps (t.setEvent e) := h.withHost _ (by rfl)

theorem Keeps.clearHandover (h : s.Keeps t) (r : RingId) : s.Keeps (t.clearHandover r) := h.withTransit _

theorem Keeps.giveAnswer (h : s.Keeps t) (r : RingId) (a : Answer) : s.Keeps (t.giveAnswer r a) := by
  unfold State.giveAnswer
  split
  · exact h.withTransit _
  · exact h

theorem Keeps.giveGlyphAnswer (h : s.Keeps t) (r : RingId) (a : Answer) : s.Keeps (t.giveGlyphAnswer r a) := by
  unfold State.giveGlyphAnswer
  split
  · exact h.withTransit _
  · exact h

/-! ### The Report Unit (chapter 8) -/

theorem Keeps.takeReport (h : s.Keeps t) (e : ReportEntry) (hroom : t.report.hasRoom = true) :
    s.Keeps (t.takeReport e) :=
  h.withReport _ fun _ => by rw [List.length_append]; exact of_decide_eq_true hroom

theorem Keeps.startReportWrite (h : s.Keeps t) : s.Keeps t.startReportWrite := by
  unfold State.startReportWrite
  split
  · exact h
  · rename_i e rest hbuffer
    split
    · exact h.withReport _ fun hlen => by
        rw [hbuffer] at hlen
        exact (Nat.le_succ rest.length).trans hlen
    · exact h

theorem Keeps.grantRing (h : s.Keeps t) (r : RingId) (hroom : t.report.hasRoom = true) : s.Keeps (t.grantRing r) := by
  unfold State.grantRing
  dsimp only
  split
  · exact ((h.withReport _ (by exact id)).takeReport _ (by exact hroom)).withTransit _
  · exact h.withReport _ (by exact id)

theorem Keeps.grantLane (h : s.Keeps t) (l : LaneId) (hroom : t.report.hasRoom = true) : s.Keeps (t.grantLane l) := by
  unfold State.grantLane
  dsimp only
  split
  · exact ((h.withReport _ (by exact id)).takeReport _ (by exact hroom)).modLane _ _
  · exact h.withReport _ (by exact id)

theorem Keeps.grants (n : Nat) : ∀ {t : State}, s.Keeps t → s.Keeps (State.grants n t) := by
  induction n with
  | zero => exact id
  | succ n ih =>
    intro t h
    unfold State.grants
    split
    · rename_i t' ht
      refine ih (Keeps.startReportWrite ?_)
      obtain ⟨-, hroom, ⟨r, -, rfl⟩ | ⟨l, -, rfl⟩⟩ := State.grant_cases ht
      · exact h.grantRing r hroom
      · exact h.grantLane l hroom
    · exact h

theorem Keeps.serveReports (h : s.Keeps t) : s.Keeps t.serveReports := .grants _ h.startReportWrite

theorem Keeps.offerRingReport (h : s.Keeps t) (r : RingId) (rep : RingReport) : s.Keeps (t.offerRingReport r rep) :=
  ((h.modRing _ _).withReport _ (by exact id)).serveReports

theorem Keeps.offerLaneEvent (h : s.Keeps t) (l : LaneId) (done : Bool) : s.Keeps (t.offerLaneEvent l done) := by
  unfold State.offerLaneEvent
  split
  · rename_i htakes
    have hroom : t.report.hasRoom = true := by simp_all [State.takesLaneEvent]
    exact ((h.takeReport _ hroom).withReport _ (by exact id)).serveReports
  · exact (h.modLane _ _).serveReports

theorem Keeps.reportWritten (h : s.Keeps t) : s.Keeps t.reportWritten :=
  ((h.withReport _ (by exact id)).setEvent _).serveReports

theorem Keeps.reportWriteFailed (h : s.Keeps t) : s.Keeps t.reportWriteFailed := by
  unfold State.reportWriteFailed
  dsimp only
  split
  · exact (h.withReport _ (by exact id)).withTransit _
  · exact h.withReport _ (by exact id)

theorem Keeps.haltReport (h : s.Keeps t) : s.Keeps t.haltReport := h.withReport _ fun _ => Nat.zero_le _

theorem Keeps.writeRrel (h : s.Keeps t) (value : Word) : s.Keeps (t.writeRrel value) := by
  unfold State.writeRrel
  dsimp only
  split
  · exact h
  · split
    · exact (h.withReport _ (by exact id)).serveReports
    · exact h.setEvent _

/-! ### The Intake Unit (chapter 7) -/

theorem Keeps.statusDue (h : s.Keeps t) (r : RingId) : s.Keeps (t.statusDue r) := by
  unfold State.statusDue
  split
  · exact h.modRing _ _
  · exact h

theorem Keeps.statusFailed (h : s.Keeps t) (r : RingId) : s.Keeps (t.statusFailed r) := by
  unfold State.statusFailed
  dsimp only
  split
  · exact (h.modRing _ _).withTransit _
  · exact h.modRing _ _

theorem Keeps.grantFetch (h : s.Keeps t) : s.Keeps t.grantFetch := by
  unfold State.grantFetch
  split
  · exact (h.modRing _ _).withIntake _
  · exact h

theorem Keeps.idleRing (h : s.Keeps t) (r : RingId) : s.Keeps (t.idleRing r) := by
  unfold State.idleRing
  dsimp only
  split
  · exact (h.modRing _ _).statusDue _
  · exact h.modRing _ _

theorem Keeps.endGroup (h : s.Keeps t) (r : RingId) : s.Keeps (t.endGroup r) := (h.modRing _ _).statusDue _

theorem Keeps.endWalk (h : s.Keeps t) (r : RingId) (w : Walk) (isOpen : Bool) : s.Keeps (t.endWalk r w isOpen) :=
  (h.modRing _ _).offerRingReport _ _

theorem Keeps.openWalk (h : s.Keeps t) (r : RingId) (w : Walk) (cont : Bool) : s.Keeps (t.openWalk r w cont) := by
  unfold State.openWalk
  dsimp only
  split
  · exact (h.modRing _ _).endWalk _ _ _
  · split
    · exact (h.modRing _ _).endWalk _ _ _
    · exact (h.modRing _ _).modRing _ _

theorem Keeps.walkFetched (h : s.Keeps t) (r : RingId) (w : Walk) (read : ReadEnd) :
    s.Keeps (t.walkFetched r w read) := by
  unfold State.walkFetched
  split
  · exact (h.modRing _ _).endWalk _ _ _
  · dsimp only
    split
    · exact (h.modRing _ _).endWalk _ _ _
    · split
      · exact (h.modRing _ _).endWalk _ _ _
      · exact (h.modRing _ _).modRing _ _

theorem Keeps.completeEntry (h : s.Keeps t) (r : RingId) (v : EntryInService) (a : Answer) :
    s.Keeps (t.completeEntry r v a) := by
  unfold State.completeEntry
  dsimp only
  split
  · exact (h.modRing _ _).offerRingReport _ _
  · split
    · exact (h.modRing _ _).idleRing _
    · exact (h.modRing _ _).endGroup _

theorem Keeps.takeAnswer (h : s.Keeps t) (r : RingId) (a : Answer) : s.Keeps (t.takeAnswer r a) := by
  unfold State.takeAnswer
  split
  · exact h
  · split
    · exact h.completeEntry _ _ _
    · exact h.openWalk _ _ _

theorem Keeps.validateEntry (h : s.Keeps t) (r : RingId) (e : WorkEntry) : s.Keeps (t.validateEntry r e) := by
  unfold State.validateEntry
  dsimp only
  split
  · exact ((h.modRing _ _).modRing _ _).openWalk _ _ _
  · split
    · exact ((h.modRing _ _).modRing _ _).openWalk _ _ _
    · unfold State.handEntry
      dsimp only
      split
      · exact ((h.modRing _ _).modRing _ _).completeEntry _ _ _
      · exact ((h.modRing _ _).modRing _ _).withTransit _

theorem Keeps.fetched (h : s.Keeps t) (r : RingId) (read : ReadEnd) : s.Keeps (t.fetched r read) := by
  unfold State.fetched
  dsimp only
  split
  · exact h.walkFetched _ _ _
  · split
    · exact h.idleRing _
    · split
      · exact (h.modRing _ _).endWalk _ _ _
      · split
        · exact (h.modRing _ _).statusDue _
        · exact h.validateEntry _ _

theorem Keeps.haltIntake (h : s.Keeps t) : s.Keeps t.haltIntake := (h.withIntake _).withTransit _

theorem Keeps.quiesceIntake (h : s.Keeps t) : s.Keeps t.quiesceIntake := by
  unfold State.quiesceIntake
  split
  · exact h.haltIntake
  · exact h

theorem Keeps.acceptReport (h : s.Keeps t) (r : RingId) : s.Keeps (t.acceptReport r) := by
  unfold State.acceptReport
  split
  · exact h
  · dsimp only
    split
    · exact (h.modRing _ _).statusDue _
    · exact h.modRing _ _

theorem Keeps.sendCancel (h : s.Keeps t) (r : RingId) : s.Keeps (t.sendCancel r) := by
  unfold State.sendCancel
  split
  · split
    · exact h.withTransit _
    · exact h.withTransit _
    · exact h.withTransit _
    · exact h
  · exact h

theorem Keeps.stop (h : s.Keeps t) (r : RingId) : s.Keeps (t.stop r) := by
  unfold State.stop
  dsimp only
  split
  · split
    · exact (h.modRing _ _).statusDue _
    · split
      · exact ((h.sendCancel _).modRing _ _).statusDue _
      · exact (h.modRing _ _).statusDue _
  · exact h

theorem Keeps.flush (h : s.Keeps t) (r : RingId) : s.Keeps (t.flush r) := by
  unfold State.flush
  dsimp only
  split
  · split
    · exact (h.modRing _ _).statusDue _
    · exact ((h.modRing _ _).statusDue _).offerRingReport _ _
  · exact h.setEvent _

theorem Keeps.post (h : s.Keeps t) (r : RingId) (index : Nat) : s.Keeps (t.post r index) := by
  unfold State.post
  split
  · exact (h.modRing _ _).grantFetch
  · exact h.setEvent _

theorem Keeps.resume (h : s.Keeps t) (r : RingId) : s.Keeps (t.resume r) := by
  unfold State.resume
  split
  · exact h.setEvent _
  · exact ((h.modRing _ _).statusDue _).grantFetch

theorem Keeps.writeRcmd (h : s.Keeps t) (value : Word) : s.Keeps (t.writeRcmd value) := by
  unfold State.writeRcmd
  split
  · exact h
  · split
    · split
      · exact h.setEvent _
      · split
        · exact h.post _ _
        · exact h.stop _
        · exact h.resume _
        · exact h.flush _
        · exact h.setEvent _
    · exact h.setEvent _

/-! ### The Presentation Unit (chapter 4) -/

/-- The holds that follow the backgrounds agree with them (R78). -/
theorem Keeps.withBackgrounds (h : s.Keeps t) (u : PresentationUnit) : s.Keeps (t.withBackgrounds u) :=
  h.trans ⟨rfl, id, id, fun _ n => by simp [State.withBackgrounds, State.surfaceAt, heldSurfaces], id⟩

theorem Keeps.promoteQueue (l : List RingEntry) : ∀ {t : State}, s.Keeps t → s.Keeps (State.promoteQueue l t) := by
  induction l with
  | nil => exact fun h => h.withPresentation _ (by rfl) (by rfl)
  | cons e rest ih =>
    intro t h
    unfold State.promoteQueue
    split
    · exact (h.withPresentation _ (by rfl) (by rfl)).withBackgrounds _
    · exact ih (h.giveAnswer _ _)

theorem Keeps.answerPresent (h : s.Keeps t) (r : Option RingId) : s.Keeps (t.answerPresent r) := by
  unfold State.answerPresent
  split
  · exact h.giveAnswer _ _
  · exact h

theorem Keeps.promote (h : s.Keeps t) : s.Keeps t.promote := by
  unfold State.promote
  split
  · exact h
  · exact .promoteQueue _ ((h.withBackgrounds _).answerPresent _)

theorem Keeps.frameStart (h : s.Keeps t) : s.Keeps t.frameStart :=
  ((h.withPresentation _ (by rfl) (by rfl)).promote.withPresentation _ (by rfl) (by rfl)).withTransit _

theorem Keeps.servePresent (h : s.Keeps t) (r : RingId) (e : WorkEntry) : s.Keeps (t.servePresent r e) := by
  unfold State.servePresent
  split
  · exact h.giveAnswer _ _
  · split
    · exact h.withBackgrounds _
    · exact h.withPresentation _ (by rfl) (by rfl)

theorem Keeps.cancelPresent (h : s.Keeps t) (r : RingId) : s.Keeps (t.cancelPresent r) := by
  unfold State.cancelPresent
  split
  · exact (h.withPresentation _ (by rfl) (by rfl)).giveAnswer _ _
  · exact h

theorem Keeps.haltPresentation (h : s.Keeps t) : s.Keeps t.haltPresentation :=
  (h.withPresentation _ (by rfl) (by simp [Function.comp_def])).withTransit _

/-! ### The Sync Table (chapter 9) -/

theorem Keeps.answerRings (a : Answer) (l : List RingId) :
    ∀ {t : State}, s.Keeps t → s.Keeps (State.answerRings a l t) := by
  induction l with
  | nil => exact id
  | cons r rs ih => exact fun h => ih (h.giveAnswer _ _)

theorem Keeps.setCounter (h : s.Keeps t) (c : CounterId) (value : Word) : s.Keeps (t.setCounter c value) :=
  .answerRings _ _ ((h.withSync _).withSync _)

theorem Keeps.serveSignal (h : s.Keeps t) (r : RingId) (e : WorkEntry) : s.Keeps (t.serveSignal r e) := by
  unfold State.serveSignal
  split
  · exact (h.setCounter _ _).giveAnswer _ _
  · exact (h.setCounter _ _).giveAnswer _ _
  · exact h.giveAnswer _ _

theorem Keeps.serveWait (h : s.Keeps t) (r : RingId) (e : WorkEntry) : s.Keeps (t.serveWait r e) := by
  unfold State.serveWait
  split
  · exact h.giveAnswer _ _
  · dsimp only
    split
    · exact h.giveAnswer _ _
    · exact h.withSync _

theorem Keeps.serveWaitFrame (h : s.Keeps t) (r : RingId) (e : WorkEntry) : s.Keeps (t.serveWaitFrame r e) := by
  unfold State.serveWaitFrame
  split
  · exact h.giveAnswer _ _
  · exact h.withSync _

theorem Keeps.timeOutWaiter (h : s.Keeps t) (r : RingId) : s.Keeps (t.timeOutWaiter r) := by
  unfold State.timeOutWaiter
  split
  · exact (h.withSync _).giveAnswer _ _
  · exact h

theorem Keeps.endFrameWait (h : s.Keeps t) (r : RingId) : s.Keeps (t.endFrameWait r) := by
  unfold State.endFrameWait
  split
  · exact (h.withSync _).giveAnswer _ _
  · exact h

theorem Keeps.timeOutWaiters (l : List RingId) : ∀ {t : State}, s.Keeps t → s.Keeps (State.timeOutWaiters l t) := by
  induction l with
  | nil => exact id
  | cons r rs ih => exact fun h => ih (h.timeOutWaiter _)

theorem Keeps.endFrameWaits (l : List RingId) : ∀ {t : State}, s.Keeps t → s.Keeps (State.endFrameWaits l t) := by
  induction l with
  | nil => exact id
  | cons r rs ih => exact fun h => ih (h.endFrameWait _)

theorem Keeps.cancelWait (h : s.Keeps t) (r : RingId) : s.Keeps (t.cancelWait r) := by
  unfold State.cancelWait
  split
  · exact (h.withSync _).giveAnswer _ _
  · exact h

/-! ### The Surface Table (chapter 5) -/

/-- A surface that takes an entry is held by no background (R95, R96). -/
theorem Keeps.setSurface (h : s.Keeps t) (n : SurfaceId) (k : Surface)
    (hk : k.hold = (t.surfaceAt n).hold) : s.Keeps (t.setSurface n k) := by
  refine h.withSurfaces _ fun _ m => ?_
  simp only [Fin.getElem_fin, update_get]
  split
  · rename_i hm; rw [hm]; exact hk
  · rfl

theorem SurfaceSetArgs.hold_of_validated {a : SurfaceSetArgs} {n : SurfaceId} {k : Surface}
    (h : a.validated = some (n, k)) : k.hold = .none := by
  unfold SurfaceSetArgs.validated at h
  split at h
  · dsimp only at h
    split at h
    · obtain ⟨-, rfl⟩ := by simpa using h
      rfl
    · simp at h
  · simp at h

theorem Keeps.serveSurfaceSet (h : s.Keeps t) (r : RingId) (e : WorkEntry) : s.Keeps (t.serveSurfaceSet r e) := by
  unfold State.serveSurfaceSet
  split
  · exact h.giveAnswer _ _
  · rename_i n k hvalid
    split
    · exact h.giveAnswer _ _
    · rename_i hfree
      refine (h.setSurface _ _ ?_).giveAnswer _ _
      rw [SurfaceSetArgs.hold_of_validated hvalid]
      simp_all [Surface.inUse]

theorem Keeps.serveClipSet (h : s.Keeps t) (r : RingId) (e : WorkEntry) : s.Keeps (t.serveClipSet r e) := by
  unfold State.serveClipSet
  dsimp only
  split
  · exact h.giveAnswer _ _
  · split
    · exact h.giveAnswer _ _
    · split
      · exact h.giveAnswer _ _
      · split
        · exact h.giveAnswer _ _
        · exact (h.setSurface _ _ (by rfl)).giveAnswer _ _

/-! ### The motion of lanes (chapter 3) -/

theorem Keeps.laneEvent (h : s.Keeps t) (l : LaneId) (isDone : Bool) : s.Keeps (t.laneEvent l isDone) := by
  have hsent : s.Keeps (t.sendSignal (t.laneAt l)) := by
    unfold State.sendSignal
    split
    · exact h.withTransit _
    · exact h
  unfold State.laneEvent
  dsimp only
  split
  · exact hsent.modLane _ _
  · exact hsent.offerLaneEvent _ _

theorem Keeps.completePass (h : s.Keeps t) (l : LaneId) : s.Keeps (t.completePass l) := by
  unfold State.completePass
  dsimp only
  split
  · exact (h.modLane _ _).laneEvent _ _
  · exact h.modLane _ _

theorem Keeps.arrive (h : s.Keeps t) (l : LaneId) (offset : Nat) : s.Keeps (t.arrive l offset) := by
  unfold State.arrive
  dsimp only
  split
  · exact (h.modLane _ _).completePass _
  · exact h.modLane _ _

theorem Keeps.stepLane (h : s.Keeps t) (l : LaneId) : s.Keeps (t.stepLane l) := by
  unfold State.stepLane
  split
  · split
    · exact h
    · exact h.arrive _ _
    · exact h.arrive _ _
  · exact h

theorem Keeps.moveLanes (l : List LaneId) : ∀ {t : State}, s.Keeps t → s.Keeps (State.moveLanes l t) := by
  induction l with
  | nil => exact id
  | cons x xs ih =>
    intro t h
    refine ih ?_
    unfold State.moveLane
    split
    · exact (h.modLane _ _).stepLane _
    · exact h

/-! ### The blocks of one handling -/

theorem Keeps.deliver (l : List GivenAnswer) : ∀ {t : State}, s.Keeps t → s.Keeps (State.deliver l t) := by
  induction l with
  | nil => exact id
  | cons x rest ih =>
    intro t h
    refine ih ?_
    split
    · exact h.giveGlyphAnswer _ _
    · exact h.giveAnswer _ _

theorem Keeps.putBlocks (h : s.Keeps t) {b : Blocks} (hb : t.blocks.Keeps b) : s.Keeps (t.putBlocks b) :=
  .deliver _ ((((h.withGlyph _ hb.agrees).withLane _).withRaster _).withSurfaces _ fun _ => hb.holds)

theorem Keeps.runBlocks (h : s.Keeps t) {f : Blocks → Blocks × List Task} (hf : ∀ b : Blocks, b.Keeps (f b).1) :
    s.Keeps (t.runBlocks f) :=
  h.putBlocks ((hf _).trans (Blocks.settle_keeps _ _ _))

theorem Keeps.haltGlyph (h : s.Keeps t) : s.Keeps t.haltGlyph :=
  (h.withGlyph _ fun hg => hg.abandon).withTransit _

theorem Keeps.haltRaster (h : s.Keeps t) : s.Keeps t.haltRaster :=
  (h.putBlocks (Blocks.haltRaster_keeps _)).withTransit _

theorem Keeps.haltLane (h : s.Keeps t) : s.Keeps t.haltLane :=
  (h.putBlocks (Blocks.haltLane_keeps _)).withTransit _

theorem Keeps.takeHalts (h : s.Keeps t) : s.Keeps t.takeHalts := by
  have hraster : s.Keeps (if t.transit.halts.raster then t.haltRaster else t) := .ite h.haltRaster h
  unfold State.takeHalts
  dsimp only
  generalize (if t.transit.halts.raster then t.haltRaster else t) = t1 at hraster ⊢
  have hlane : s.Keeps (if t1.transit.halts.lane then t1.haltLane else t1) := .ite hraster.haltLane hraster
  exact .ite hlane.haltGlyph hlane

theorem Keeps.quiesce (h : s.Keeps t) : s.Keeps t.quiesce := by
  unfold State.quiesce
  split
  · exact h.takeHalts
  · exact h

/-! ### Entries taken by their owners -/

theorem Keeps.takeEntry (h : s.Keeps t) (r : RingId) (kind : Kind) (op : Nat → Bool) {serve : WorkEntry → State → State}
    (hserve : ∀ e {u : State}, s.Keeps u → s.Keeps (serve e u)) : s.Keeps (t.takeEntry r kind op serve) := by
  unfold State.takeEntry
  split
  · split
    · exact hserve _ (h.clearHandover _)
    · exact h
  · exact h

theorem Keeps.takeRunningEntry (h : s.Keeps t) (r : RingId) (kind : Kind) (op : Nat → Bool)
    {serve : WorkEntry → State → State} (hserve : ∀ e {u : State}, s.Keeps u → s.Keeps (serve e u)) :
    s.Keeps (t.takeRunningEntry r kind op serve) := by
  unfold State.takeRunningEntry
  split
  · exact h.takeEntry _ _ _ hserve
  · exact h

theorem Keeps.takeSurfaceEntry (h : s.Keeps t) (r : RingId) (kind : Kind) {serve : WorkEntry → State → State}
    (hserve : ∀ e {u : State}, s.Keeps u → s.Keeps (serve e u)) : s.Keeps (t.takeSurfaceEntry r kind serve) := by
  unfold State.takeSurfaceEntry
  split
  · exact h
  · exact h.takeEntry _ _ _ hserve

theorem Keeps.takeBlocksEntry (h : s.Keeps t) (r : RingId) (kind : Kind) (op : Nat → Bool)
    {arrive : Blocks → WorkEntry → Blocks × List Task} (harrive : ∀ (b : Blocks) e, b.Keeps (arrive b e).1) :
    s.Keeps (t.takeBlocksEntry r kind op arrive) :=
  h.quiesce.takeEntry _ _ _ fun e _ hu => hu.runBlocks fun b => harrive b e

theorem Keeps.takeRasterEntry (h : s.Keeps t) (r : RingId) (kind : Kind) : s.Keeps (t.takeRasterEntry r kind) := by
  unfold State.takeRasterEntry
  split
  · exact h.takeBlocksEntry _ _ _ fun b e => .elsewhere rfl
  · exact h.quiesce

theorem Keeps.takeGlyphEntry (h : s.Keeps t) (r : RingId) (kind : Kind) :
    s.Keeps (t.takeBlocksEntry r kind (fun _ => true) fun b e => b.arriveGlyph r e) :=
  h.takeBlocksEntry _ _ _ fun b e => b.arriveGlyph_keeps r e

theorem Keeps.takeLaneEntry (h : s.Keeps t) (r : RingId) (kind : Kind) (op : Nat → Bool) :
    s.Keeps (t.takeLaneEntry r kind op) :=
  h.takeBlocksEntry _ _ _ fun b e => b.arriveLane_keeps r e

/-! ### Part control (chapter 10) -/

theorem Keeps.loadFails (h : s.Keeps t) (fault : FaultCode) (detail : Nat) : s.Keeps (t.loadFails fault detail) :=
  (h.withHost _ (by rfl)).setEvent _

theorem Keeps.loadSucceeds (h : s.Keeps t) (block : List Byte) : s.Keeps (t.loadSucceeds block) := by
  have hloaded : s.Keeps ((((t.withIntake (t.intake.loaded block)).withReport (loadedReport block)).withBackgrounds
      (t.presentation.loaded block)).withHost t.host.loaded) :=
    (((h.withIntake _).withReport _ fun _ => Nat.zero_le _).withBackgrounds _).withHost _ (by rfl)
  exact ((((hloaded.statusDue 0).statusDue 1).statusDue 2).statusDue 3).serveReports

theorem Keeps.tryEndLoad (h : s.Keeps t) : s.Keeps t.tryEndLoad := by
  unfold State.tryEndLoad
  split
  · split
    · unfold State.endLoad
      split
      · exact h.loadFails _ _
      · split
        · exact h.loadFails _ _
        · exact h.loadSucceeds _
    · exact h
  · exact h

theorem Keeps.beginLoad (h : s.Keeps t) (origin : LoadOrigin) : s.Keeps (t.beginLoad origin) := by
  unfold State.beginLoad
  dsimp only
  split
  · exact (h.withHost _ (by rfl)).loadFails _ _
  · exact (h.withHost _ (by rfl)).withHost _ (by rfl)

theorem Keeps.writeCtrl (h : s.Keeps t) (value : Word) : s.Keeps (t.writeCtrl value) := by
  unfold State.writeCtrl
  split
  · exact h
  · split
    · exact (h.withHost _ (by rfl)).withTransit _
    · split
      · split
        · exact h.beginLoad _
        · exact h.beginLoad _
        all_goals exact h
      · exact h

/-- A write of SETUP leaves a multiple of 64 (R192). -/
theorem Keeps.writeSetup (h : s.Keeps t) (value : Word) : s.Keeps (t.writeSetup value) := by
  have hset : t.Keeps (t.withHost { t.host with setupAddr := value &&& 0xFFFFFFC0 }) :=
    ⟨rfl, fun _ => by rw [State.withHost_host, toNat_and_setupMask, Nat.mul_mod_left], id, id, id⟩
  unfold State.writeSetup
  split
  · exact h.trans hset
  · exact h.trans hset
  all_goals exact h

theorem Keeps.writeEvt (h : s.Keeps t) (value : Word) : s.Keeps (t.writeEvt value) := by
  unfold State.writeEvt
  split
  · exact h
  · exact h.withHost _ (by rfl)

theorem Keeps.writeEvten (h : s.Keeps t) (value : Word) : s.Keeps (t.writeEvten value) := by
  unfold State.writeEvten
  split
  · exact h
  · exact h.withHost _ (by rfl)

theorem Keeps.writeRegister (h : s.Keeps t) (reg : Register) (value : Word) : s.Keeps (t.writeRegister reg value) := by
  cases reg with
  | ctrl => exact h.writeCtrl value
  | setup => exact h.writeSetup value
  | rcmd => exact h.writeRcmd value
  | rrel => exact h.writeRrel value
  | evt => exact h.writeEvt value
  | evten => exact h.writeEvten value
  | stat | fcnt => exact h

/-- A reset leaves the three invariants as the reset state has them, and frame memory as it was (R89, R202). -/
theorem reinitialised_keeps (s : State) (cause : ResetCause) : s.Keeps (s.reinitialised cause) where
  memory := rfl
  setupAddr _ := rfl
  buffer _ := Nat.zero_le _
  holds _ n := by
    simp [State.reinitialised, State.reset, State.surfaceAt, Surface.none, PresentationUnit.holdOf,
      PresentationUnit.reset, Background.surface?]
  agrees _ := ⟨⟨fun n => by simp [State.reinitialised, State.reset, GlyphTable.reset, Slot.none], List.nodup_nil⟩,
    fun f hf => by simp [State.reinitialised, State.reset, GlyphTable.reset] at hf⟩

end State

/-! ### Every command -/

/-- What every command but RASTER_TRANSFER_END keeps. -/
theorem exec_keeps {c : Instr} {s t : State} (hc : ∀ read, c ≠ .rasterTransferEnd read) (ht : exec c s = .next t) :
    s.Keeps t := by
  have hs := State.Keeps.refl s
  cases c with
  | rasterTransferEnd read => exact absurd rfl (hc read)
  | powerOnReset => cases ht; exact s.reinitialised_keeps _
  | softResetReinit => cases ht; exact .ite (s.reinitialised_keeps _) hs
  | ctrlRun value | ctrlReset value => cases ht; exact hs.writeCtrl value
  | setupWrite value => cases ht; exact hs.writeSetup value
  | rcmdPost value | rcmdStop value | rcmdResume value | rcmdFlush value => cases ht; exact hs.writeRcmd value
  | rrelWrite value => cases ht; exact hs.writeRrel value
  | evtWrite value => cases ht; exact hs.writeEvt value
  | evtenWrite value => cases ht; exact hs.writeEvten value
  | ignoredRegisterWrite reg size value =>
    cases ht
    cases size with
    | bits8 | bits16 => exact hs
    | bits32 => exact hs.writeRegister reg value
  | setupReadEnd read =>
    cases ht
    split
    · exact hs
    · exact .ite (hs.withHost _ (by rfl)) (hs.withHost _ (by rfl)).tryEndLoad
  | setupLoadEnd => cases ht; exact hs.tryEndLoad
  | fatalFault fault =>
    cases ht
    exact .ite (.ite (((hs.withHost _ (by rfl)).setEvent _).withTransit _) (hs.withTransit _)) hs
  | intakeHaltAnnouncement => cases ht; exact .ite hs.haltIntake hs
  | reportUnitHaltAnnouncement => cases ht; exact .ite (hs.haltReport.withTransit _) hs
  | glyphTableHaltAnnouncement => cases ht; exact .ite hs.haltGlyph hs
  | rasterHaltAnnouncement => cases ht; exact .ite hs.haltRaster hs
  | laneUnitHaltAnnouncement => cases ht; exact .ite hs.haltLane hs
  | syncTableHaltAnnouncement => cases ht; exact .ite (((hs.withSync _).withTransit _).withTransit _) hs
  | presentationHaltAnnouncement => cases ht; exact .ite (hs.haltPresentation.withTransit _) hs
  | frameStart => cases ht; exact .ite hs.frameStart hs
  | blinkPhaseToggle blink => cases ht; exact .ite (hs.withPresentation _ (by rfl) (by rfl)) hs
  | laneFrameStart =>
    cases ht
    split
    · exact hs
    · exact (State.Keeps.moveLanes _ (hs.withTransit _)).withFrame _
  | marqueeStep lane | stepJump lane => cases ht; exact .ite (hs.arrive _ _) hs
  | hostPortFrameStart =>
    cases ht
    split
    · exact hs
    · exact ((hs.withTransit _).withHost _ (by rfl)).setEvent _
  | syncFrameStart =>
    cases ht
    exact .ite hs (.endFrameWaits _ (.timeOutWaiters _ ((hs.withTransit _).withSync _)))
  | waitTimeout ring => cases ht; exact hs.timeOutWaiter ring
  | frameWaitEnd ring => cases ht; exact hs.endFrameWait ring
  | laneAddition counter => cases ht; exact .ite ((hs.withTransit _).setCounter _ _) hs
  | syncCancelRequest ring => cases ht; exact .ite ((hs.withTransit _).cancelWait ring) hs
  | presentCancelRequest ring => cases ht; exact .ite ((hs.withTransit _).cancelPresent ring) hs
  | entryFetchEnd read =>
    cases ht
    split
    · exact hs
    · exact .ite ((hs.withIntake _).fetched _ _).grantFetch (hs.withIntake _)
  | ownerAnswer ring =>
    cases ht
    split
    · exact hs.quiesceIntake
    · exact .ite ((hs.quiesceIntake.withTransit _).takeAnswer _ _).grantFetch hs.quiesceIntake
  | reportAccepted ring =>
    cases ht
    exact .ite ((hs.quiesceIntake.withTransit _).acceptReport _).grantFetch hs.quiesceIntake
  | statusWordWriteEnd ring busError => cases ht; exact .ite hs (.ite (hs.statusFailed _) (hs.modRing _ _))
  | reportWriteEnd busError => cases ht; exact .ite hs (.ite hs.reportWriteFailed hs.reportWritten)
  | nop ring =>
    cases ht
    split
    · exact .ite (hs.quiesceIntake.completeEntry _ _ _).grantFetch hs.quiesceIntake
    · exact hs.quiesceIntake
  | faceLoad ring | faceDrop ring | glyphPreload ring | glyphDefine ring | glyphRelease ring =>
    cases ht; exact hs.takeGlyphEntry ring _
  | glyphFillEnd read => cases ht; exact hs.quiesce.runBlocks fun b => .onGlyph rfl fun hg => hg.fillEnds read
  | defineReadEnd read =>
    cases ht
    exact .ite (hs.quiesce.runBlocks fun b => b.defineReadEnds_keeps read)
      (hs.quiesce.withGlyph _ fun hg => hg.congr rfl rfl rfl)
  | surfaceSet ring => cases ht; exact hs.takeSurfaceEntry _ _ fun e _ hu => hu.serveSurfaceSet ring e
  | clipSet ring => cases ht; exact hs.takeSurfaceEntry _ _ fun e _ hu => hu.serveClipSet ring e
  | fill ring | copy ring | expand ring | text ring => cases ht; exact hs.takeRasterEntry ring _
  | codeListReadEnd read =>
    cases ht
    split
    · exact hs.quiesce.runBlocks fun b => b.codesRead_keeps _ read
    · exact hs.quiesce.withRaster _
  | cellListReadEnd abandoned read =>
    cases ht
    refine .ite ?_ (.ite (hs.quiesce.runBlocks fun b => b.cellListRead_keeps read) (.ite ?_ hs.quiesce))
    · cases read with
      | delivers bytes => exact hs.quiesce
      | ends bytes | busError => exact hs.quiesce.withLane _
    · cases read with
      | delivers bytes => exact hs.quiesce
      | ends bytes | busError => exact hs.quiesce.withLane _
  | laneSet ring | laneTextWrite ring | laneTextInsert ring | laneTextDelete ring | laneTextClear ring
  | laneTextCursor ring | laneViewShow ring | laneViewHide ring | laneViewRefresh ring | laneViewRelease ring
  | laneMotionStart ring | laneMotionPause ring | laneMotionResume ring | laneMotionStop ring
  | laneMotionSetOffset ring => cases ht; exact hs.takeLaneEntry ring _ _
  | present ring => cases ht; exact hs.takeRunningEntry _ _ _ fun e _ hu => hu.servePresent ring e
  | signalAdd ring | signalSet ring =>
    cases ht; exact hs.takeRunningEntry _ _ _ fun e _ hu => hu.serveSignal ring e
  | wait ring => cases ht; exact hs.takeRunningEntry _ _ _ fun e _ hu => hu.serveWait ring e
  | waitFrame ring => cases ht; exact hs.takeRunningEntry _ _ _ fun e _ hu => hu.serveWaitFrame ring e

/-- RASTER_TRANSFER_END keeps what the other commands keep but for one byte of frame memory (R92). -/
theorem exec_rasterTransferEnd_keeps {read : ReadEnd} {s t : State} (ht : exec (.rasterTransferEnd read) s = .next t) :
    ∃ m : Memory, (s.frameMemory.wf = true → m.wf = true) ∧ (s.withFrameMemory m).Keeps t := by
  have hq := (State.Keeps.refl s).quiesce
  have hsame : (s.withFrameMemory s.frameMemory).Keeps s.quiesce := hq
  change execRasterTransferEnd read s = .next t at ht
  unfold execRasterTransferEnd at ht
  dsimp only at ht
  split at ht
  · rename_i c d _ _
    split at ht
    · cases ht
    · cases ht
      unfold State.endTransfer
      split
      · exact ⟨_, id, hsame.runBlocks fun b => b.transferFailed_keeps c⟩
      · refine ⟨d.transfer.stored s.quiesce.frameMemory, fun hwf => ?_, ?_⟩
        · unfold RasterTransfer.stored
          rw [hq.memory]
          split
          · exact Memory.write_wf _ _ hwf
          · exact hwf
        · have hstored : (s.withFrameMemory (d.transfer.stored s.quiesce.frameMemory)).Keeps
              (s.quiesce.withFrameMemory (d.transfer.stored s.quiesce.frameMemory)) :=
            ⟨rfl, hq.setupAddr, hq.buffer, hq.holds, hq.agrees⟩
          exact hstored.runBlocks fun b => b.transferEnded_keeps c d _
  · cases ht
    exact ⟨_, id, hsame⟩

/-- Settles O7: frame memory is part of what `exec_keeps` keeps. -/
theorem onlyPixelTransfersWriteFrameMemory : Obligations.OnlyPixelTransfersWriteFrameMemory := by
  intro c s t hc ht a
  rw [(exec_keeps hc ht).memory]

/-- What every step keeps, frame memory aside, which stays in canonical form. -/
theorem step_keeps {s t : State} (ht : step s = .next t) :
    ∃ m : Memory, (s.frameMemory.wf = true → m.wf = true) ∧ (s.withFrameMemory m).Keeps t := by
  unfold step at ht
  split at ht
  · cases ht
    exact ⟨_, id, .refl s⟩
  · rename_i c rest hpending
    by_cases hc : ∃ read, c = .rasterTransferEnd read
    · obtain ⟨read, rfl⟩ := hc
      obtain ⟨m, hm, hkeeps⟩ := exec_rasterTransferEnd_keeps ht
      exact ⟨m, hm, ⟨hkeeps.memory, hkeeps.setupAddr, hkeeps.buffer, hkeeps.holds, hkeeps.agrees⟩⟩
    · have hkeeps := exec_keeps (fun read h => hc ⟨read, h⟩) ht
      exact ⟨_, id, ⟨hkeeps.memory, hkeeps.setupAddr, hkeeps.buffer, hkeeps.holds, hkeeps.agrees⟩⟩

/-- Settles O5, by `step_keeps`. -/
theorem everyStepKeepsTheInvariant : Obligations.EveryStepKeepsTheInvariant := by
  intro s t ⟨hmemory, hbuffer, haddr⟩ ht
  obtain ⟨m, hm, hkeeps⟩ := step_keeps ht
  exact ⟨hkeeps.memory ▸ hm hmemory, hkeeps.buffer hbuffer, hkeeps.setupAddr haddr⟩

/-- Settles O6, by `step_keeps`. -/
theorem everyStepKeepsTheScanHolds : Obligations.EveryStepKeepsTheScanHolds := by
  intro s t hholds ht
  obtain ⟨m, -, hkeeps⟩ := step_keeps ht
  exact hkeeps.holds hholds

/-- Settles O46, by `step_keeps`: the Glyph Table's own operations keep the list (`GlyphTable.Agrees`). -/
theorem everyStepKeepsTheReclaimList : Obligations.EveryStepKeepsTheReclaimList := by
  intro s t hagrees ht
  obtain ⟨m, -, hkeeps⟩ := step_keeps ht
  exact t.reclaimAgrees_iff.mpr (hkeeps.agrees (s.reclaimAgrees_iff.mp hagrees))

end Sys2Proof.Machine
end

section
/-! PROOFS. Steps and resets (sections 3.6, 10.5 and 10.6): the front command, what reset leaves in every block, and
the two ways back to it. -/

namespace Sys2Proof.Machine

theorem State.isRunning_eq_true_iff {s : State} : s.isRunning = true ↔ s.part = .running := by
  simp [State.isRunning]

theorem State.isRunning_of_running {s : State} (h : s.part = .running) : s.isRunning = true :=
  State.isRunning_eq_true_iff.mpr h

theorem State.isRunning_of_not_running {s : State} (h : s.part ≠ .running) : s.isRunning = false := by
  simpa [State.isRunning] using h

/-- Settles O1: by the definition of a step on a queue that is not empty. -/
theorem stepTakesFrontCommand : Obligations.StepTakesFrontCommand := by
  intro c rest s hpending
  simp only [step, hpending]

/-! ### Reset -/

theorem State.reset_ring (r : RingId) : State.reset.ring r = Ring.unused := by
  simp [State.reset, State.ring, IntakeUnit.reset]

theorem State.reset_face (f : FaceId) : State.reset.glyph.faces[f] = Face.none := by
  simp [State.reset, GlyphTable.reset]

theorem State.reset_slot (n : SlotId) : State.reset.glyph.slots[n] = Slot.none := by
  simp [State.reset, GlyphTable.reset]

theorem State.reset_laneAt (l : LaneId) : State.reset.laneAt l = Lane.none := by
  simp [State.reset, State.laneAt, LaneUnit.reset]

theorem State.reset_surfaceAt (n : SurfaceId) : State.reset.surfaceAt n = Surface.none := by
  simp [State.reset, State.surfaceAt]

theorem State.reset_counter (c : CounterId) : State.reset.counter c = 0 := by
  simp [State.reset, State.counter, SyncTable.reset]

theorem State.reset_panelPixel (px py : Nat) : State.reset.panelPixel px py = none := rfl

/-- Settles O2: table by table, every record is the reset record. -/
theorem resetLeavesEveryBlockEmpty : Obligations.ResetLeavesEveryBlockEmpty := by
  refine ⟨by decide, fun r => ?_, by decide, State.reset_face, fun n => ?_, fun l => ?_, fun n => ?_,
    State.reset_counter, by decide, by decide, by decide, by decide, by decide, by decide, rfl, rfl,
    State.reset_panelPixel⟩
  · rw [State.reset_ring]
    exact ⟨rfl, rfl, rfl⟩
  · rw [State.reset_slot]
    exact ⟨rfl, rfl, rfl⟩
  · rw [State.reset_laneAt]
    exact ⟨rfl, rfl, rfl⟩
  · rw [State.reset_surfaceAt]
    exact ⟨rfl, rfl⟩

theorem exec_softResetReinit (s : State) :
    exec .softResetReinit s = .next (if s.part = .resetting ∧ s.drained then s.reinitialised .soft else s) := rfl

/-- Settles O3: a soft reset waits exactly while the port is busy or the engine serves. -/
theorem resetsReinitialiseThePart : Obligations.ResetsReinitialiseThePart := by
  intro s
  refine ⟨rfl, fun hpart hport hraster => ?_, fun hpart hbusy => ?_⟩
  · have hdrained : s.drained = true := by simp [State.drained, hport, hraster]
    rw [exec_softResetReinit, if_pos ⟨hpart, hdrained⟩]
    rfl
  · have hwaits : ¬s.drained = true := by
      rcases hbusy with hport | hraster
      · simp [State.drained, hport]
      · obtain ⟨c, hc⟩ := Option.isSome_iff_exists.mp hraster
        simp [State.drained, hc]
    rw [exec_softResetReinit, if_neg fun h => hwaits h.2]

/-- Settles O4: every slot is FREE and the reclaim list empty, and no background names a surface. -/
theorem resetMeetsTheInvariants : Obligations.ResetMeetsTheInvariants := by
  refine ⟨⟨State.reset_memory_wf, by decide, by decide⟩, fun n => ?_, fun n => ?_, List.nodup_nil, nofun⟩
  · rw [State.reset_surfaceAt]
    rfl
  · rw [State.reset_slot]
    simp [State.reset, GlyphTable.reset, Slot.none]

end Sys2Proof.Machine
end

section
/-! PROOFS. Register writes (sections 7.3, 8.6, 8.7, 10.2, 10.5 and 11.1): CTRL, EVT and EVTEN, RREL, RCMD, and the
writes that are ignored. -/

namespace Sys2Proof.Machine

/-! ### CTRL (R191, R199) -/

theorem exec_ctrlReset (v : Word) (s : State) : exec (.ctrlReset v) s = .next (s.writeCtrl v) := rfl

theorem State.writeCtrl_of_resetting {s : State} (v : Word) (hpart : s.part = .resetting) : s.writeCtrl v = s :=
  if_pos hpart

theorem State.writeCtrl_of_reset {s : State} {v : Word} (hpart : s.part ≠ .resetting) (hreset : v.getLsbD 1 = true) :
    s.writeCtrl v = s.beginReset := by
  simp [State.writeCtrl, hpart, hreset]

theorem State.writeCtrl_of_loading_or_running {s : State} {v : Word} (hpart : s.part = .loading ∨ s.part = .running)
    (hreset : v.getLsbD 1 = false) : s.writeCtrl v = s := by
  unfold State.writeCtrl
  rcases hpart with hloading | hrunning
  · simp only [hloading, hreset, reduceCtorEq, Bool.false_eq_true, if_false, ite_self]
  · simp only [hrunning, hreset, reduceCtorEq, Bool.false_eq_true, if_false, ite_self]

theorem State.writeCtrl_of_neither {s : State} {v : Word} (hrun : v.getLsbD 0 = false) (hreset : v.getLsbD 1 = false) :
    s.writeCtrl v = s := by
  simp only [State.writeCtrl, hrun, hreset, Bool.false_eq_true, if_false, ite_self]

/-- A load from an address that leaves no room for the block fails at once (R193). -/
theorem State.beginLoad_of_addr_gt {s : State} (origin : LoadOrigin) (haddr : 0xFFFFFF80 < s.host.setupAddr.toNat) :
    s.beginLoad origin = s.withHost { s.host with
      part := .halted, origin := .none, fault := .setupInvalid, faultDetail := 0, setupData := none,
      evt := s.host.evt ||| Event.halt.bit } := by
  simp only [State.beginLoad, haddr, if_true]
  rfl

/-- Settles O8: the part states and the two bits split as `State.writeCtrl` does. -/
theorem ctrlWritesBeginALoadOrAReset : Obligations.CtrlWritesBeginALoadOrAReset := by
  intro s v
  refine ⟨fun hrun hreset => ⟨fun hpart haddr => ?_, fun hpart haddr => ?_, fun hpart => ?_⟩,
    fun hreset => ⟨fun hpart => ?_, fun hpart => ?_⟩, fun hrun hreset => ?_⟩
  · rw [exec_ctrlRun, State.writeCtrl_of_run hpart hrun hreset, State.beginLoad_of_addr_le _ haddr]
  · rw [exec_ctrlRun, State.writeCtrl_of_run hpart hrun hreset, State.beginLoad_of_addr_gt _ haddr]
  · rw [exec_ctrlRun]
    rcases hpart with hloading | hrunning | hresetting
    · rw [State.writeCtrl_of_loading_or_running (.inl hloading) hreset]
    · rw [State.writeCtrl_of_loading_or_running (.inr hrunning) hreset]
    · rw [State.writeCtrl_of_resetting v hresetting]
  · rw [exec_ctrlReset, State.writeCtrl_of_reset hpart hreset]
    rfl
  · rw [exec_ctrlReset, State.writeCtrl_of_resetting v hpart]
  · rw [exec_ctrlRun, exec_ctrlReset, State.writeCtrl_of_neither hrun hreset]
    exact ⟨rfl, rfl⟩

/-! ### EVT, EVTEN and the interrupt line (R171, R172) -/

theorem exec_evtWrite (v : Word) (s : State) : exec (.evtWrite v) s = .next (s.writeEvt v) := rfl

theorem exec_evtenWrite (v : Word) (s : State) : exec (.evtenWrite v) s = .next (s.writeEvten v) := rfl

theorem State.writeEvt_of_resetting {s : State} (v : Word) (hpart : s.part = .resetting) : s.writeEvt v = s :=
  if_pos hpart

theorem State.writeEvten_of_resetting {s : State} (v : Word) (hpart : s.part = .resetting) : s.writeEvten v = s :=
  if_pos hpart

theorem State.writeEvt_of_not_resetting {s : State} (v : Word) (hpart : s.part ≠ .resetting) :
    s.writeEvt v = s.withHost { s.host with evt := s.host.evt &&& ~~~(v.extractLsb' 0 4) } :=
  if_neg hpart

theorem State.writeEvten_of_not_resetting {s : State} (v : Word) (hpart : s.part ≠ .resetting) :
    s.writeEvten v = s.withHost { s.host with evten := v.extractLsb' 0 4 } :=
  if_neg hpart

/-- The interrupt line is asserted exactly while some event is set and enabled (R172). -/
theorem State.interruptLine_iff (s : State) :
    s.interruptLine = true ↔ ∃ i < 4, s.host.evt.getLsbD i = true ∧ s.host.evten.getLsbD i = true := by
  rw [State.interruptLine, bne_iff_ne, Ne, ← not_iff_not, not_not, BitVec.eq_of_getLsbD_eq_iff]
  simp

/-- A write that is not 32 bits wide, goes to a register that no write changes, or finds the part RESETTING is
ignored (R203). -/
theorem exec_ignoredRegisterWrite_of_ignored {s : State} {reg : Register} {size : AccessSize} (v : Word)
    (h : size ≠ .bits32 ∨ reg = .stat ∨ reg = .fcnt ∨ s.part = .resetting) :
    exec (.ignoredRegisterWrite reg size v) s = .next s := by
  show execIgnoredRegisterWrite reg size v s = .next s
  cases size with
  | bits8 => rfl
  | bits16 => rfl
  | bits32 =>
    rcases h with hsize | rfl | rfl | hresetting
    · exact absurd rfl hsize
    · rfl
    · rfl
    · refine congrArg Host.Outcome.next ?_
      cases reg with
      | ctrl => exact State.writeCtrl_of_resetting v hresetting
      | setup => exact State.writeSetup_of_loading_or_running_or_resetting v (.inr (.inr hresetting))
      | rcmd => exact if_pos hresetting
      | rrel => exact if_pos hresetting
      | evt => exact State.writeEvt_of_resetting v hresetting
      | evten => exact State.writeEvten_of_resetting v hresetting
      | stat => rfl
      | fcnt => rfl

/-- Settles O10: the two writes bit by bit, and the ignored writes by register. -/
theorem eventWritesAndIgnoredWrites : Obligations.EventWritesAndIgnoredWrites := by
  intro s v
  refine ⟨s.interruptLine_iff, fun hpart => ⟨⟨s.writeEvt v, exec_evtWrite v s, ?_, fun i hi => ?_⟩,
    ⟨s.writeEvten v, exec_evtenWrite v s, ?_, fun i hi => ?_⟩⟩, fun hpart => ⟨?_, ?_⟩,
    fun reg size h => exec_ignoredRegisterWrite_of_ignored v h⟩
  · rw [State.writeEvt_of_not_resetting v hpart, State.withHost_host]
  · rw [State.writeEvt_of_not_resetting v hpart]
    simp [hi]
  · rw [State.writeEvten_of_not_resetting v hpart, State.withHost_host]
  · rw [State.writeEvten_of_not_resetting v hpart]
    simp [hi]
  · rw [exec_evtWrite, State.writeEvt_of_resetting v hpart]
  · rw [exec_evtenWrite, State.writeEvten_of_resetting v hpart]

/-! ### RREL (R170) -/

theorem State.releaseAccepted_iff {s : State} {i : Nat} :
    s.releaseAccepted i = true ↔ s.part = .running ∧ i < s.report.size ∧
      forward s.report.size s.report.releaseIndex i ≤
        forward s.report.size s.report.releaseIndex s.report.writeIndex := by
  simp only [State.releaseAccepted, Bool.and_eq_true, State.isRunning_eq_true_iff, decide_eq_true_eq, and_assoc]
  rfl

theorem exec_rrelWrite (v : Word) (s : State) : exec (.rrelWrite v) s = .next (s.writeRrel v) := rfl

/-- Outside RESETTING a release that is not accepted is refused (R170). -/
theorem State.writeRrel_of_refused {s : State} {v : Word} (hpart : s.part ≠ .resetting)
    (h : ¬s.releaseAccepted (v.extractLsb' 0 16).toNat = true) : s.writeRrel v = s.setEvent .protocol := by
  simp only [State.writeRrel, if_neg hpart, if_neg h]

/-- Settles O11: the accepted indexes are those of `State.releaseAccepted_iff`. -/
theorem rrelWriteMovesTheReleaseIndex : Obligations.RrelWriteMovesTheReleaseIndex := by
  intro s v u i free
  refine ⟨fun hpart hfree => ?_, fun hpart hfree => ?_, fun hpart => ?_, fun hpart => ?_⟩
  · have haccepted : s.releaseAccepted i = true := State.releaseAccepted_iff.mpr ⟨hpart, hfree⟩
    rw [exec_rrelWrite]
    simp only [State.writeRrel, hpart, reduceCtorEq, if_false]
    rw [if_pos haccepted]
  · rw [exec_rrelWrite, State.writeRrel_of_refused (by simp [hpart]) fun h => hfree (State.releaseAccepted_iff.mp h).2]
    rfl
  · have hnot : s.part ≠ .resetting ∧ s.part ≠ .running := by
      rcases hpart with h | h | h <;> simp [h]
    rw [exec_rrelWrite, State.writeRrel_of_refused hnot.1 fun h => hnot.2 (State.releaseAccepted_iff.mp h).1]
    rfl
  · rw [exec_rrelWrite]
    exact congrArg Host.Outcome.next (if_pos hpart)

/-! ### RCMD (R134) -/

/-- The row of an RCMD write: each of the four commands runs the write (R134). -/
theorem exec_rcmd {c : Instr} {v : Word} (s : State)
    (hc : c = .rcmdPost v ∨ c = .rcmdStop v ∨ c = .rcmdResume v ∨ c = .rcmdFlush v) :
    exec c s = .next (s.writeRcmd v) := by
  rcases hc with rfl | rfl | rfl | rfl <;> rfl

theorem State.writeRcmd_of_resetting {s : State} (v : Word) (hpart : s.part = .resetting) : s.writeRcmd v = s :=
  if_pos hpart

/-- A part that is neither RUNNING nor RESETTING refuses every RCMD write (R134). -/
theorem State.writeRcmd_of_not_running {s : State} (v : Word) (hpart : s.part ≠ .resetting)
    (hrunning : s.part ≠ .running) : s.writeRcmd v = s.setEvent .protocol := by
  simp [State.writeRcmd, hpart, State.isRunning_of_not_running hrunning]

theorem State.writeRcmd_of_no_ring {s : State} {v : Word} (hpart : s.part = .running) (hring : rcmdRing v = none) :
    s.writeRcmd v = s.setEvent .protocol := by
  simp [State.writeRcmd, hpart, State.isRunning_of_running hpart, hring]

/-- What a RUNNING part does with an RCMD write for a ring, by its operation (R134). -/
theorem State.writeRcmd_of_ring {s : State} {v : Word} {r : RingId} (hpart : s.part = .running)
    (hring : rcmdRing v = some r) :
    s.writeRcmd v =
      if (s.ring r).state = .unused then s.setEvent .protocol
      else if rcmdOperation v = 0 then s.post r (rcmdIndex v)
      else if rcmdOperation v = 1 then s.stop r
      else if rcmdOperation v = 2 then s.resume r
      else if rcmdOperation v = 3 then s.flush r
      else s.setEvent .protocol := by
  simp only [State.writeRcmd, hpart, State.isRunning_of_running hpart, hring, reduceCtorEq, if_false]
  congr 1
  generalize rcmdOperation v = op
  have hop : ∀ k < 16, (op = BitVec.ofNat 4 k ↔ op.toNat = k) := fun k hk => by
    rw [← BitVec.toNat_inj]
    simp [Nat.mod_eq_of_lt hk]
  have hops : (op = 0 ↔ op.toNat = 0) ∧ (op = 1 ↔ op.toNat = 1) ∧ (op = 2 ↔ op.toNat = 2) ∧ (op = 3 ↔ op.toNat = 3) :=
    ⟨hop 0 (by decide), hop 1 (by decide), hop 2 (by decide), hop 3 (by decide)⟩
  simp only [hops]
  generalize op.toNat = n
  match n with
  | 0 | 1 | 2 | 3 => simp
  | n + 4 => simp

/-- Settles O12: every clause is one of the refusals of a RUNNING part, or another part state. -/
theorem refusedRcmdWritesSetProtocolAlone : Obligations.RefusedRcmdWritesSetProtocolAlone := by
  intro s v c hc
  rw [exec_rcmd s hc]
  refine ⟨fun h => congrArg Host.Outcome.next ?_, fun hpart => congrArg Host.Outcome.next
    (State.writeRcmd_of_resetting v hpart)⟩
  show s.writeRcmd v = s.setEvent .protocol
  rcases h with hidle | hloading | hhalted | ⟨hpart, h⟩
  · exact State.writeRcmd_of_not_running v (by simp [hidle]) (by simp [hidle])
  · exact State.writeRcmd_of_not_running v (by simp [hloading]) (by simp [hloading])
  · exact State.writeRcmd_of_not_running v (by simp [hhalted]) (by simp [hhalted])
  · cases hring : rcmdRing v with
    | none => exact State.writeRcmd_of_no_ring hpart hring
    | some r =>
      rw [State.writeRcmd_of_ring hpart hring]
      rcases h with houtside | hoperation | ⟨q, hq, hunused⟩
      · rw [rcmdRing, recordNumber_eq_none houtside] at hring
        exact absurd hring (by simp)
      · have hnone : rcmdOperation v ≠ 0 ∧ rcmdOperation v ≠ 1 ∧ rcmdOperation v ≠ 2 ∧ rcmdOperation v ≠ 3 := by
          refine ⟨?_, ?_, ?_, ?_⟩ <;> (intro h; rw [h] at hoperation; revert hoperation; decide)
        obtain ⟨h0, h1, h2, h3⟩ := hnone
        rw [if_neg h0, if_neg h1, if_neg h2, if_neg h3, ite_self]
      · cases hring.symm.trans hq
        exact if_pos hunused

theorem Ring.postAccepted_iff {k : Ring} {i : Nat} :
    k.postAccepted i = true ↔ i < k.size ∧ forward k.size k.head k.post ≤ forward k.size k.head i ∧
      forward k.size k.done k.head + forward k.size k.head i ≤ k.size - 1 := by
  simp [Ring.postAccepted, and_assoc]

/-- Settles O13: the operation is POST's, and the index is accepted by `Ring.postAccepted_iff`. -/
theorem postMovesThePostIndexForward : Obligations.PostMovesThePostIndexForward := by
  intro s v r hpart hoperation hring hused k i accepted
  have hpost : exec (.rcmdPost v) s = .next (s.post r i) := by
    rw [exec_rcmd s (.inl rfl), State.writeRcmd_of_ring hpart hring, if_neg hused, if_pos hoperation]
    rfl
  rw [hpost]
  exact ⟨fun h => congrArg Host.Outcome.next (if_pos (Ring.postAccepted_iff.mpr h)),
    fun h => congrArg Host.Outcome.next (if_neg fun h' => h (Ring.postAccepted_iff.mp h'))⟩

/-- STOP leaves a ring that is not ACTIVE as it is (R136). -/
theorem State.stop_of_not_active {s : State} {r : RingId} (h : (s.ring r).state ≠ .active) : s.stop r = s :=
  if_neg h

theorem State.stop_of_idle {s : State} {r : RingId} (hactive : (s.ring r).state = .active)
    (hidle : (s.ring r).phase = .idle) :
    s.stop r = (s.modRing r fun k => { k with state := .stopped }).statusDue r := by
  simp only [State.stop, hactive, hidle, if_true]

/-- The cancel requests that a STOP sends (R137): to the Sync Table for a wait, to the Presentation Unit for a
PRESENT, and none where no such entry is in service. -/
theorem State.sendCancel_spec (s : State) (r : RingId) :
    ∃ t : Transit, s.sendCancel r = s.withTransit t ∧
      t = { s.transit with syncCancel := t.syncCancel, presentCancel := t.presentCancel } ∧
      (∀ q : RingId, t.syncCancel[q] = (s.transit.syncCancel[q] || decide (q = r ∧
        ((s.ring r).service.map (·.kind) = some .wait ∨ (s.ring r).service.map (·.kind) = some .waitFrame)))) ∧
      (∀ q : RingId, t.presentCancel[q] = (s.transit.presentCancel[q] || decide (q = r ∧
        (s.ring r).service.map (·.kind) = some .present))) := by
  have hset (v : Vector Bool 4) (q : RingId) : (update v r true)[q.1] = (v[q.1] || decide (q = r)) := by
    rw [update_get]
    by_cases h : q = r <;> simp [h]
  unfold State.sendCancel
  cases hservice : (s.ring r).service with
  | none => exact ⟨s.transit, rfl, rfl, by simp, by simp⟩
  | some v =>
    cases hkind : v.kind with
    | wait | waitFrame => exact ⟨_, by simp [hkind]; rfl, rfl, by simp [hkind, hset], by simp [hkind]⟩
    | present => exact ⟨_, by simp [hkind]; rfl, rfl, by simp [hkind], by simp [hkind, hset]⟩
    | _ => exact ⟨s.transit, by simp [hkind], rfl, by simp [hkind], by simp [hkind]⟩

/-- STOP on an ACTIVE ring away from phase IDLE: the ring becomes STOPPING, and the wait or PRESENT in service is
asked to be cancelled (R136, R137). -/
theorem State.stop_of_busy {s : State} {r : RingId} (hactive : (s.ring r).state = .active)
    (hbusy : (s.ring r).phase ≠ .idle) :
    s.stop r = ((if (s.ring r).phase = .serving then s.sendCancel r else s).modRing r
      fun k => { k with state := .stopping }).statusDue r := by
  simp only [State.stop, hactive, hbusy, if_true, if_false]

theorem State.resume_of_not_active {s : State} {r : RingId} (h : (s.ring r).state ≠ .active) :
    s.resume r = ((s.modRing r fun k => { k with state := .active }).statusDue r).grantFetch :=
  if_neg h

/-- Settles O14: STOP by ring state and phase with `State.sendCancel_spec`, RESUME by ring state. -/
theorem stopAndResumeSetTheRingState : Obligations.StopAndResumeSetTheRingState := by
  intro s v r hpart hring k serves active
  have hused {a : RingState} (hk : k.state = a) (ha : a ≠ .unused) : ¬(s.ring r).state = .unused := hk ▸ ha
  have hstop (hoperation : rcmdOperation v = 1) (hk : k.state ≠ .unused) :
      exec (.rcmdStop v) s = .next (s.stop r) := by
    rw [exec_rcmd s (.inr (.inl rfl)), State.writeRcmd_of_ring hpart hring, if_neg hk, hoperation]
    rfl
  have hresume (hoperation : rcmdOperation v = 2) (hk : k.state ≠ .unused) :
      exec (.rcmdResume v) s = .next (s.resume r) := by
    rw [exec_rcmd s (.inr (.inr (.inl rfl))), State.writeRcmd_of_ring hpart hring, if_neg hk, hoperation]
    rfl
  refine ⟨fun hoperation => ⟨fun hactive hidle => ?_, fun hactive hbusy => ?_, fun hstate => ?_⟩,
    fun hoperation => ⟨fun hstate => ?_, fun hactive => ?_⟩⟩
  · rw [hstop hoperation (hused hactive (by decide)), State.stop_of_idle hactive hidle]
  · rw [hstop hoperation (hused hactive (by decide)), State.stop_of_busy hactive hbusy]
    by_cases hserving : (s.ring r).phase = .serving
    · obtain ⟨t, hcancel, hframe, hsync, hpresent⟩ := s.sendCancel_spec r
      rw [if_pos hserving, hcancel]
      refine ⟨t, rfl, hframe, fun q => ?_, fun q => ?_⟩
      · simp only [hsync q, serves, k, hserving, true_and]
      · simp only [hpresent q, serves, k, hserving, true_and]
    · rw [if_neg hserving]
      refine ⟨s.transit, by rw [State.withTransit_self], rfl, fun q => ?_, fun q => ?_⟩
      · simp [serves, k, hserving]
      · simp [serves, k, hserving]
  · have hnot : k.state ≠ .unused ∧ k.state ≠ .active := by
      rcases hstate with h | h | h <;> simp [h]
    rw [hstop hoperation hnot.1, State.stop_of_not_active hnot.2]
  · have hnot : k.state ≠ .unused ∧ k.state ≠ .active := by
      rcases hstate with h | h | h <;> simp [h]
    rw [hresume hoperation hnot.1, State.resume_of_not_active hnot.2]
  · rw [hresume hoperation (hused hactive (by decide))]
    exact congrArg Host.Outcome.next (if_pos hactive)

/-- FLUSH where it is allowed: the ring record, the status write, and the report of the discarded entries (R140). -/
theorem State.flush_of_allowed {s : State} {r : RingId}
    (h : ((s.ring r).state = .stopped ∨ (s.ring r).state = .faulted) ∧ (s.ring r).phase = .idle) :
    s.flush r =
      if forward (s.ring r).size (s.ring r).head (s.ring r).post = 0 then (s.modRing r Ring.flushed).statusDue r
      else ((s.modRing r Ring.flushed).statusDue r).offerRingReport r (s.ring r).flushReport :=
  if_pos h

/-- Settles O15: the operation is FLUSH's, split by the number of entries discarded. -/
theorem flushDiscardsTheUnfetchedEntries : Obligations.FlushDiscardsTheUnfetchedEntries := by
  intro s v r hpart hoperation hring hused k count t mayFlush
  have hflush : exec (.rcmdFlush v) s = .next (s.flush r) := by
    rw [exec_rcmd s (.inr (.inr (.inr rfl))), State.writeRcmd_of_ring hpart hring, if_neg hused, hoperation]
    rfl
  rw [hflush]
  refine ⟨fun hmay hcount => congrArg Host.Outcome.next ?_, fun hmay hcount => congrArg Host.Outcome.next ?_,
    fun hmay => congrArg Host.Outcome.next (if_neg hmay)⟩
  · rw [State.flush_of_allowed hmay, if_pos hcount]
    rfl
  · rw [State.flush_of_allowed hmay, if_neg (Nat.ne_of_gt hcount)]
    rfl

end Sys2Proof.Machine
end

section
/-! PROOFS. Setup loads, fatal faults and the Intake Unit's halt (sections 7.12, 8.8, 10.3 and 10.4): what a load that
ends makes of every block, and the first field that fails its check. -/

namespace Sys2Proof.Machine

/-! ### Ring status writes (R157) -/

theorem State.statusDue_of_used {s : State} {r : RingId} (hpart : s.part = .running)
    (hused : (s.ring r).state ≠ .unused) : s.statusDue r = s.modRing r Ring.dueStatus :=
  if_pos ⟨State.isRunning_of_running hpart, hused⟩

theorem State.statusDue_of_unused {s : State} {r : RingId} (h : (s.ring r).state = .unused) : s.statusDue r = s :=
  if_neg fun hc => hc.2 h

theorem State.statusDue_ring_ne (s : State) {r q : RingId} (h : q ≠ r) : (s.statusDue r).ring q = s.ring q := by
  unfold State.statusDue
  split
  · exact State.modRing_ring_ne s _ h
  · rfl

/-- The ring of a status write that falls due in a RUNNING part. -/
theorem State.statusDue_ring_self {s : State} {r : RingId} (hpart : s.part = .running) :
    (s.statusDue r).ring r = if (s.ring r).state = .unused then s.ring r else (s.ring r).dueStatus := by
  split
  · rw [State.statusDue_of_unused ‹_›]
  · rw [State.statusDue_of_used hpart ‹_›, State.modRing_ring_self]

@[simp] theorem State.statusDue_lastServed (s : State) (r : RingId) :
    (s.statusDue r).intake.lastServed = s.intake.lastServed := by
  unfold State.statusDue
  split <;> rfl

/-- The status writes of the four rings that fall due at the end of a load. -/
def State.allStatusDue (s : State) : State := (((s.statusDue 0).statusDue 1).statusDue 2).statusDue 3

theorem State.allStatusDue_ring {s : State} (hpart : s.part = .running) (n : RingId) :
    s.allStatusDue.ring n = if (s.ring n).state = .unused then s.ring n else (s.ring n).dueStatus := by
  unfold State.allStatusDue
  match n with
  | 0 =>
    rw [State.statusDue_ring_ne _ (by decide), State.statusDue_ring_ne _ (by decide),
      State.statusDue_ring_ne _ (by decide), State.statusDue_ring_self hpart]
  | 1 =>
    rw [State.statusDue_ring_ne _ (by decide), State.statusDue_ring_ne _ (by decide),
      State.statusDue_ring_self (by simpa using hpart), State.statusDue_ring_ne _ (by decide)]
  | 2 =>
    rw [State.statusDue_ring_ne _ (by decide), State.statusDue_ring_self (by simpa using hpart),
      State.statusDue_ring_ne _ (by decide), State.statusDue_ring_ne _ (by decide)]
  | 3 =>
    rw [State.statusDue_ring_self (by simpa using hpart), State.statusDue_ring_ne _ (by decide),
      State.statusDue_ring_ne _ (by decide), State.statusDue_ring_ne _ (by decide)]

/-! ### What serving reports leaves of the report ring (R165, R167) -/

/-- Two Report Units have the same report ring: base, size, indexes and lap. -/
def ReportUnit.SameRing (u v : ReportUnit) : Prop :=
  u.base = v.base ∧ u.size = v.size ∧ u.writeIndex = v.writeIndex ∧ u.releaseIndex = v.releaseIndex ∧ u.lap = v.lap

theorem ReportUnit.SameRing.refl (u : ReportUnit) : u.SameRing u := ⟨rfl, rfl, rfl, rfl, rfl⟩

theorem ReportUnit.SameRing.trans {u v w : ReportUnit} (h : u.SameRing v) (h' : v.SameRing w) : u.SameRing w := by
  simp_all [ReportUnit.SameRing]

theorem State.startReportWrite_sameRing (s : State) : s.startReportWrite.report.SameRing s.report := by
  unfold State.startReportWrite
  split
  · exact .refl _
  · split
    · exact ⟨rfl, rfl, rfl, rfl, rfl⟩
    · exact .refl _

theorem State.grant_sameRing {s t : State} (h : s.grant = some t) : t.report.SameRing s.report := by
  obtain ⟨-, -, ⟨r, -, rfl⟩ | ⟨l, -, rfl⟩⟩ := State.grant_cases h
  · unfold State.grantRing
    dsimp only
    split <;> exact ⟨rfl, rfl, rfl, rfl, rfl⟩
  · unfold State.grantLane
    dsimp only
    split <;> exact ⟨rfl, rfl, rfl, rfl, rfl⟩

theorem State.grants_sameRing (n : Nat) (s : State) : (State.grants n s).report.SameRing s.report := by
  induction n generalizing s with
  | zero => exact .refl _
  | succ n ih =>
    unfold State.grants
    split
    · rename_i t ht
      exact (ih _).trans ((State.startReportWrite_sameRing t).trans (State.grant_sameRing ht))
    · exact .refl _

theorem State.serveReports_sameRing (s : State) : s.serveReports.report.SameRing s.report :=
  (State.grants_sameRing _ _).trans s.startReportWrite_sameRing

/-! ### The end of a load (R193 to R196) -/

theorem exec_setupLoadEnd (s : State) : exec .setupLoadEnd s = .next s.tryEndLoad := rfl

/-- A load whose read has ended, with nothing that keeps it waiting, ends (R193). -/
theorem State.tryEndLoad_of_ready {s : State} {read : ReadEnd} (hpart : s.part = .loading)
    (hdata : s.host.setupData = some read) (hdrained : s.drained = true) (hhalts : s.transit.halts = HaltNotices.none) :
    s.tryEndLoad = s.endLoad read := by
  simp only [State.tryEndLoad, hpart, hdata, hdrained, hhalts, and_self, if_true]

/-- A load waits for the Memory Port and the Raster Engine (R193). -/
theorem State.tryEndLoad_of_not_drained {s : State} (hdrained : s.drained = false) : s.tryEndLoad = s := by
  unfold State.tryEndLoad
  split
  · exact if_neg (by simp [hdrained])
  · rfl

theorem State.loadSucceeds_eq (s : State) (block : List Byte) :
    s.loadSucceeds block =
      ((((s.withIntake (s.intake.loaded block)).withReport (loadedReport block)).withBackgrounds
        (s.presentation.loaded block)).withHost s.host.loaded).allStatusDue.serveReports := rfl

@[simp] theorem State.allStatusDue_frame (s : State) :
    s.allStatusDue.host = s.host ∧ s.allStatusDue.intake.lastServed = s.intake.lastServed ∧
    s.allStatusDue.report = s.report ∧ s.allStatusDue.sync = s.sync ∧ s.allStatusDue.glyph = s.glyph ∧
    s.allStatusDue.surfaces = s.surfaces ∧ s.allStatusDue.raster = s.raster ∧
    s.allStatusDue.presentation = s.presentation ∧ s.allStatusDue.frame = s.frame ∧
    s.allStatusDue.frameMemory = s.frameMemory := by
  simp [State.allStatusDue]

/-- Each ring after a load that succeeds: as its descriptor gives it, its status write under way unless UNUSED. -/
theorem State.loadSucceeds_ring (s : State) (block : List Byte) (n : RingId) :
    (s.loadSucceeds block).ring n =
      if (ringDescriptorAt block n.1).exponent = 0 then Ring.unused
      else (ringDescriptorAt block n.1).ring.dueStatus := by
  have hring : (s.intake.loaded block).rings[n.1] = (ringDescriptorAt block n.1).ring := by
    simp [IntakeUnit.loaded]
  have hstate : (ringDescriptorAt block n.1).ring.state = .unused ↔ (ringDescriptorAt block n.1).exponent = 0 := by
    unfold RingDescriptor.ring
    split
    · exact iff_of_true rfl ‹_›
    · exact iff_of_false nofun ‹_›
  have hserved (t : State) : t.serveReports.ring n = t.ring n := by simp
  rw [State.loadSucceeds_eq, hserved, State.allStatusDue_ring rfl]
  show (if ((s.intake.loaded block).rings[n.1]).state = .unused then (s.intake.loaded block).rings[n.1]
    else ((s.intake.loaded block).rings[n.1]).dueStatus) = _
  rw [hring]
  simp only [hstate]
  split
  · exact if_pos ‹_›
  · rfl

theorem PresentationUnit.loaded_state (u : PresentationUnit) (block : List Byte) : (u.loaded block).state = .running := by
  unfold PresentationUnit.loaded
  split
  · assumption
  · rfl

/-- Settles O16: the blocks of `State.loadSucceeds_eq`, past the status writes and the serving of reports. -/
theorem setupLoadStartsThePart : Obligations.SetupLoadStartsThePart := by
  intro s block hpart hdata hdrained hhalts hpasses
  have hload : exec .setupLoadEnd s = .next (s.loadSucceeds block) := by
    rw [exec_setupLoadEnd, State.tryEndLoad_of_ready hpart hdata hdrained hhalts]
    simp only [State.endLoad, hpasses]
  obtain ⟨hbase, hsize, hwrite, hrelease, hlap⟩ := State.serveReports_sameRing
    ((((s.withIntake (s.intake.loaded block)).withReport (loadedReport block)).withBackgrounds
      (s.presentation.loaded block)).withHost s.host.loaded).allStatusDue
  rw [← State.loadSucceeds_eq] at hbase hsize hwrite hrelease hlap
  have hpresentation : (s.loadSucceeds block).presentation = s.presentation.loaded block := by
    simp [State.loadSucceeds_eq, State.withBackgrounds]
  refine ⟨_, hload, by simp [State.loadSucceeds_eq, HostPort.loaded], fun n hunused => ?_, fun n hused => ?_,
    by simp [State.loadSucceeds_eq, State.withBackgrounds, IntakeUnit.loaded],
    hbase.trans (by simp [loadedReport]), hsize.trans (by simp [loadedReport]),
    hwrite.trans (by simp [loadedReport, ReportUnit.reset]), hrelease.trans (by simp [loadedReport, ReportUnit.reset]),
    hlap.trans (by simp [loadedReport, ReportUnit.reset]), hpresentation,
    hpresentation ▸ PresentationUnit.loaded_state _ _, by simp [State.loadSucceeds_eq], fun n => ?_,
    by simp [State.loadSucceeds_eq], by simp [State.loadSucceeds_eq], by simp [State.loadSucceeds_eq],
    by simp [State.loadSucceeds_eq]⟩
  · rw [State.loadSucceeds_ring, if_pos hunused]
  · rw [State.loadSucceeds_ring, if_neg hused]
    simp only [RingDescriptor.ring, hused, if_false]
    have hword : BitVec.ofNat 32 (0 % 1024 + RingState.active.code * 0x10000) = 0x00010000 := by decide
    refine ⟨rfl, rfl, rfl, rfl, rfl, rfl, rfl, rfl, ?_⟩
    rw [← hword]
    rfl
  · rw [hpresentation]
    simp [State.loadSucceeds_eq, State.withBackgrounds, State.surfaceAt, heldSurfaces]

/-! ### The first field that fails (R194) -/

/-- Of numbered checks in ascending order, the first that fails is the failing one with the lowest number. -/
theorem find?_map_fst_eq_some_iff {fields : List (Nat × Bool)} (h : fields.Pairwise fun a b => a.1 < b.1) (n : Nat) :
    (fields.find? fun f => f.2).map Prod.fst = some n ↔ (n, true) ∈ fields ∧ ∀ m < n, (m, true) ∉ fields := by
  induction fields with
  | nil => simp
  | cons f rest ih =>
    obtain ⟨k, fails⟩ := f
    obtain ⟨hk, hrest⟩ := List.pairwise_cons.mp h
    have habove (m : Nat) (hm : (m, true) ∈ rest) : k < m := hk _ hm
    cases fails with
    | false => simpa [List.find?_cons] using ih hrest
    | true =>
      simp only [List.find?_cons, Option.map_some, Option.some.injEq, List.mem_cons, Prod.mk.injEq, and_true]
      constructor
      · rintro rfl
        refine ⟨.inl rfl, fun m hm hmem => ?_⟩
        rcases hmem with rfl | hmem
        · exact absurd hm (lt_irrefl _)
        · exact absurd hm (lt_asymm (habove m hmem))
      · rintro ⟨rfl | hmem, hlow⟩
        · rfl
        · exact absurd (.inl rfl) (hlow k (habove n hmem))

/-- The fields of the setup block that are checked, in ascending field number (Table 47). -/
def setupFields (block : List Byte) (u : PresentationState) : List (Nat × Bool) :=
  ringFieldFails block 0 ++ ringFieldFails block 1 ++ ringFieldFails block 2 ++ ringFieldFails block 3 ++
    reportFieldFails block ++ (if u = .off then panelFieldFails block else [])

theorem setupFields_pairwise (block : List Byte) (u : PresentationState) :
    (setupFields block u).Pairwise fun a b => a.1 < b.1 := by
  have hnumbers : (setupFields block u).map Prod.fst = List.range' 1 (if u = .off then 27 else 18) := by
    cases u <;> rfl
  have hsorted : ((setupFields block u).map Prod.fst).Pairwise (· < ·) := hnumbers ▸ List.pairwise_lt_range'
  exact List.pairwise_map.mp hsorted

theorem exec_setupReadEnd (read : ReadEnd) (s : State) : exec (.setupReadEnd read) s = execSetupReadEnd read s := rfl

/-- Settles O17: the read's end by whether it is discarded, the failing load by its read, and the number of the
field by `find?_map_fst_eq_some_iff`. -/
theorem setupReadEndsAndFailuresHaltThePart : Obligations.SetupReadEndsAndFailuresHaltThePart := by
  refine ⟨fun s read x hread => ⟨fun hdiscarded => ?_, fun hkept hpart => ?_⟩,
    fun s read hpart hdata hdrained hhalts => ?_,
    fun block u n => find?_map_fst_eq_some_iff (setupFields_pairwise block u) n⟩
  · simp only [exec_setupReadEnd, execSetupReadEnd, hread, hdiscarded, if_true]
  · intro s'
    have hends : exec (.setupReadEnd read) s = .next s'.tryEndLoad := by
      simp only [exec_setupReadEnd, execSetupReadEnd, hread, hkept, Bool.false_eq_true, if_false]
      rfl
    rw [hends]
    exact ⟨fun hwaits => congrArg Host.Outcome.next (State.tryEndLoad_of_not_drained hwaits), fun _ _ => rfl⟩
  · intro failed
    rw [exec_setupLoadEnd, State.tryEndLoad_of_ready hpart hdata hdrained hhalts]
    refine ⟨fun herror => ?_, fun block n hblock hfails => ?_⟩
    · subst herror
      rfl
    · subst hblock
      simp only [State.endLoad, hfails]
      rfl

/-! ### Fatal faults and the Intake Unit's halt (R158, R197) -/

theorem exec_fatalFault (f : FatalFault) (s : State) : exec (.fatalFault f) s = execFatalFault f s := rfl

/-- Settles O18: a fault on its way is taken by its part state. -/
theorem fatalFaultHaltsThePart : Obligations.FatalFaultHaltsThePart := by
  intro s f hmem
  refine ⟨fun hpart => ?_, fun hpart => ?_⟩
  · simp only [exec_fatalFault, execFatalFault, hmem, State.isRunning_of_running hpart, if_true]
    cases f <;> rfl
  · simp only [exec_fatalFault, execFatalFault, hmem, State.isRunning_of_not_running hpart, if_true,
      Bool.false_eq_true, if_false]

theorem exec_intakeHaltAnnouncement (s : State) :
    exec .intakeHaltAnnouncement s = .next (if s.transit.halts.intake then s.haltIntake else s) := rfl

theorem State.haltIntake_ring (s : State) (r : RingId) : s.haltIntake.ring r = (s.ring r).halted := by
  simp [State.haltIntake, State.ring]

/-- Settles O19: every ring record is `Ring.halted` of the one before. -/
theorem intakeHaltDropsTheWorkInHand : Obligations.IntakeHaltDropsTheWorkInHand := by
  intro s hhalt
  refine ⟨s.haltIntake, by rw [exec_intakeHaltAnnouncement, if_pos hhalt], rfl, fun r => ?_, fun r w hdue => ?_,
    fun r hnone => ?_, rfl⟩
  · rw [State.haltIntake_ring]
    rfl
  · rw [State.haltIntake_ring]
    simp [Ring.halted, hdue]
  · rw [State.haltIntake_ring]
    cases hwrite : (s.ring r).statusWrite with
    | inFlightAndDue w => exact absurd hwrite (hnone w)
    | none => simp [Ring.halted, hwrite]
    | inFlight w => simp [Ring.halted, hwrite]

end Sys2Proof.Machine
end

section
/-! PROOFS. Frame starts and backgrounds (sections 3.6 and 4.2 to 4.4): the blink classes, the promotion of the
pending background and of the present queue, and PRESENT. -/

namespace Sys2Proof.Machine

/-! ### Blink classes (R67) -/

theorem BlinkClass.toggle_of_on {k : BlinkClass} (h : k.phase = .on) :
    k.toggle = { k with phase := .off, countdown := k.offFrames } := by
  simp only [BlinkClass.toggle, h]

theorem BlinkClass.toggle_of_off {k : BlinkClass} (h : k.phase = .off) :
    k.toggle = { k with phase := .on, countdown := k.onFrames } := by
  simp only [BlinkClass.toggle, h]

/-- A class at a frame start: it counts down, or changes phase where the countdown runs out (R67). -/
theorem BlinkClass.frame_eq (k : BlinkClass) :
    k.frame =
      if 1 < k.countdown then { k with countdown := k.countdown - 1 }
      else if k.phase = .on then { k with phase := .off, countdown := k.offFrames }
      else { k with phase := .on, countdown := k.onFrames } := by
  unfold BlinkClass.frame BlinkClass.settle
  dsimp only
  by_cases hmore : 1 < k.countdown
  · rw [if_pos hmore, if_neg (Nat.sub_ne_zero_of_lt hmore)]
  · rw [if_neg hmore, if_pos (Nat.sub_eq_zero_of_le (Nat.not_lt.mp hmore))]
    cases hphase : k.phase with
    | on => rfl
    | off => rfl

/-- A blink class that has been shown for `j` frames since it last became ON. -/
def BlinkClass.shownFor (onFrames offFrames j : Nat) : BlinkClass :=
  if j < onFrames then ⟨onFrames, offFrames, .on, onFrames - j⟩
  else ⟨onFrames, offFrames, .off, onFrames + offFrames - j⟩

theorem BlinkClass.frame_startedBlink {onFrames offFrames : Nat} (hon : 1 ≤ onFrames) :
    (startedBlink onFrames offFrames).frame = BlinkClass.shownFor onFrames offFrames 0 := by
  have hmore : 1 < (startedBlink onFrames offFrames).countdown := Nat.lt_succ_of_le hon
  rw [BlinkClass.frame_eq, if_pos hmore, BlinkClass.shownFor, if_pos (Nat.lt_of_succ_le hon)]
  rfl

/-- A frame start takes a class to the next of the on-frames + off-frames places of its period. -/
theorem BlinkClass.frame_shownFor {onFrames offFrames j : Nat} (hon : 1 ≤ onFrames) (hoff : 1 ≤ offFrames)
    (hj : j < onFrames + offFrames) :
    (BlinkClass.shownFor onFrames offFrames j).frame =
      BlinkClass.shownFor onFrames offFrames ((j + 1) % (onFrames + offFrames)) := by
  rw [BlinkClass.frame_eq]
  by_cases hlast : j + 1 = onFrames + offFrames
  · have hphase : ¬j < onFrames := by omega
    have hmore : ¬1 < onFrames + offFrames - j := by omega
    simp [BlinkClass.shownFor, hlast, hphase, hmore, Nat.lt_of_lt_of_le Nat.zero_lt_one hon]
  · rw [Nat.mod_eq_of_lt (by omega)]
    unfold BlinkClass.shownFor
    by_cases hphase : j < onFrames
    · by_cases hturn : j + 1 < onFrames
      · have hmore : 1 < onFrames - j := by omega
        simp [hphase, hturn, hmore, Nat.sub_sub]
      · have hmore : ¬1 < onFrames - j := by omega
        have hleft : offFrames = onFrames + offFrames - (j + 1) := by omega
        simp [hphase, hturn, hmore, ← hleft]
    · have hturn : ¬j + 1 < onFrames := by omega
      have hmore : 1 < onFrames + offFrames - j := by omega
      simp [hphase, hturn, hmore, Nat.sub_sub]

/-- The class at the `n + 1`-th frame start after the load. -/
theorem BlinkClass.iterate_frame {onFrames offFrames : Nat} (hon : 1 ≤ onFrames) (hoff : 1 ≤ offFrames) (n : Nat) :
    BlinkClass.frame^[n + 1] (startedBlink onFrames offFrames) =
      BlinkClass.shownFor onFrames offFrames (n % (onFrames + offFrames)) := by
  induction n with
  | zero => simpa using BlinkClass.frame_startedBlink hon
  | succ n ih =>
    rw [Function.iterate_succ_apply', ih, BlinkClass.frame_shownFor hon hoff (Nat.mod_lt _ (by omega)),
      Nat.mod_add_mod]

theorem exec_blinkPhaseToggle {s : State} (b : BlinkId) (h : s.presentation.state = .running) :
    exec (.blinkPhaseToggle b) s = .next (s.withPresentation { s.presentation with
      blink := update s.presentation.blink b (s.presentation.blink[b]).settle }) :=
  congrArg Host.Outcome.next (if_pos h)

/-- Settles O21: the toggle by countdown and phase, and the phase by the class's place in its period. -/
theorem blinkPhasesLastTheirFrames : Obligations.BlinkPhasesLastTheirFrames := by
  constructor
  · intro s b hstate k classTo
    rw [exec_blinkPhaseToggle b hstate]
    refine ⟨fun hcount hphase => ?_, fun hcount hphase => ?_, fun hcount => ?_⟩
    · rw [BlinkClass.settle, if_pos hcount, BlinkClass.toggle_of_on hphase]
    · rw [BlinkClass.settle, if_pos hcount, BlinkClass.toggle_of_off hphase]
    · rw [BlinkClass.settle, if_neg hcount, Fin.getElem_fin, update_same, State.withPresentation_eta]
  · intro onFrames offFrames n hon hoff hn
    obtain ⟨m, rfl⟩ := Nat.exists_eq_add_of_le' hn
    rw [BlinkClass.iterate_frame hon hoff, Nat.add_sub_cancel, BlinkClass.shownFor]
    split
    · exact iff_of_true rfl ‹_›
    · exact iff_of_false nofun ‹_›

/-! ### The announcement of a frame start (R75, R77) -/

theorem exec_frameStart (s : State) :
    exec .frameStart s = .next (if s.presentation.state = .running then s.frameStart else s) := rfl

/-- The part with its frame counter one further (R75). -/
def State.nextFrame (s : State) : State :=
  s.withPresentation { s.presentation with frameCounter := s.presentation.frameCounter + 1 }

/-- The Presentation Unit with its blink classes one frame further (R67). -/
def PresentationUnit.nextBlink (u : PresentationUnit) : PresentationUnit :=
  { u with blink := mapTable BlinkClass.frame u.blink }

theorem PresentationUnit.nextBlink_get (u : PresentationUnit) (b : BlinkId) :
    u.nextBlink.blink[b] = (u.blink[b]).frame :=
  mapTable_get _ _ b

/-- A frame start (R75): the counter, the promotion, the blink classes and the announcement. -/
theorem State.frameStart_eq (s : State) :
    s.frameStart =
      (s.nextFrame.promote.withPresentation s.nextFrame.promote.presentation.nextBlink).announceFrame := rfl

/-- Settles O22: with no pending background nothing is promoted. -/
theorem frameStartAdvancesTheFrame : Obligations.FrameStartAdvancesTheFrame := by
  intro s
  refine ⟨fun hstate hpending => ?_, fun hstate => ?_, fun number rest hframes => ?_⟩
  · have hpromote : s.nextFrame.promote = s.nextFrame := by
      simp [State.promote, State.nextFrame, hpending]
    refine ⟨s.frameStart, by rw [exec_frameStart, if_pos hstate], ?_, fun b => ?_⟩
    · rw [State.frameStart_eq, hpromote]
      rfl
    · rw [State.frameStart_eq, hpromote]
      exact (PresentationUnit.nextBlink_get _ b).trans (BlinkClass.frame_eq _)
  · rw [exec_frameStart, if_neg (by simp [hstate])]
  · show execHostPortFrameStart s = _
    simp only [execHostPortFrameStart, hframes]
    rfl

/-! ### Promotion (R78, R81) -/

/-- The holds follow the pending and the front background alone (R78). -/
theorem heldSurfaces_heldSurfaces (u w : PresentationUnit) (v : Vector Surface 16) :
    heldSurfaces u (heldSurfaces w v) = heldSurfaces u v := by
  simp [heldSurfaces]

theorem State.withBackgrounds_withBackgrounds (s : State) (u w : PresentationUnit) :
    (s.withBackgrounds u).withBackgrounds w = s.withBackgrounds w := by
  simp [State.withBackgrounds, heldSurfaces_heldSurfaces]

/-- A change of the Presentation Unit that keeps both backgrounds keeps the holds (R78). -/
theorem State.withBackgrounds_withPresentation (s : State) {u w : PresentationUnit} (hfront : w.front = u.front)
    (hpending : w.pending = u.pending) : (s.withBackgrounds u).withPresentation w = s.withBackgrounds w := by
  have hheld : heldSurfaces u s.surfaces = heldSurfaces w s.surfaces := by
    simp [heldSurfaces, PresentationUnit.holdOf, hfront, hpending]
  simp [State.withBackgrounds, hheld]

/-- The checks of R79 depend on the panel's size and on the surfaces, but not on their holds. -/
theorem State.checkPresent_withBackgrounds (s : State) (u : PresentationUnit) (e : WorkEntry)
    (hwidth : u.panelWidth = s.presentation.panelWidth) (hheight : u.panelHeight = s.presentation.panelHeight) :
    (s.withBackgrounds u).checkPresent e = s.checkPresent e := by
  have hview (n : SurfaceId) : (s.withBackgrounds u).presentation.viewFails
      (s.withBackgrounds u).surfaces[n] e.presentArgs.x e.presentArgs.y =
        s.presentation.viewFails s.surfaces[n] e.presentArgs.x e.presentArgs.y := by
    simp [State.withBackgrounds, heldSurfaces, PresentationUnit.viewFails, hwidth, hheight]
  simp only [State.checkPresent, hview]

theorem State.checkPresent_withTransit (s : State) (t : Transit) (e : WorkEntry) :
    (s.withTransit t).checkPresent e = s.checkPresent e := rfl

/-- The answer of the PRESENT that set the background that becomes front (R81, R87). -/
theorem State.answerPresent_spec (s : State) (ring : Option RingId) :
    ∃ v, s.answerPresent ring = s.withTransit { s.transit with answers := v } ∧
      ∀ r : RingId, v[r] =
        if ring = some r ∧ (s.ring r).awaitsAnswer = true then some .done else s.transit.answers[r] := by
  cases ring with
  | none => exact ⟨s.transit.answers, rfl, fun r => (if_neg nofun).symm⟩
  | some q =>
    obtain ⟨v, hv, hget⟩ := s.giveAnswer_spec q .done
    refine ⟨v, hv, fun r => (hget r).trans ?_⟩
    by_cases h : r = q
    · subst h
      simp
    · simp [h, Ne.symm h]

/-- The heads of the present queue that fail their second check are answered one after the other (R81, step 3). -/
theorem State.promoteQueue_failed (failed rest : List RingEntry) (s : State)
    (hfailed : ∀ f ∈ failed, ∃ status, s.checkPresent f.entry = .error status) :
    ∃ v, State.promoteQueue (failed ++ rest) s =
        State.promoteQueue rest (s.withTransit { s.transit with answers := v }) ∧
      (∀ r : RingId, (∀ f ∈ failed, f.ring ≠ r) → v[r] = s.transit.answers[r]) ∧
      ∀ f status, f ∈ failed → s.checkPresent f.entry = .error status →
        (∀ g ∈ failed, g.ring = f.ring → g = f) → (s.ring f.ring).awaitsAnswer = true →
        v[f.ring] = some (.failed status) := by
  induction failed generalizing s with
  | nil => exact ⟨s.transit.answers, rfl, fun _ _ => rfl, nofun⟩
  | cons f failed ih =>
    obtain ⟨status, hstatus⟩ := hfailed f (List.mem_cons_self ..)
    obtain ⟨w, hgive, hw⟩ := s.giveAnswer_spec f.ring (.failed status)
    obtain ⟨v, hrest, hother, hfails⟩ := ih (s.withTransit { s.transit with answers := w }) fun g hg =>
      hfailed g (List.mem_cons_of_mem f hg)
    refine ⟨v, ?_, fun r hr => ?_, fun g status' hg hstatus' hsame hawaits => ?_⟩
    · rw [List.cons_append, State.promoteQueue, hstatus]
      exact (congrArg _ hgive).trans hrest
    · have hne : ¬r = f.ring := fun h => hr f (List.mem_cons_self ..) h.symm
      exact (hother r fun g hg => hr g (List.mem_cons_of_mem f hg)).trans ((hw r).trans (if_neg fun h => hne h.1))
    · by_cases hlater : g ∈ failed
      · exact hfails g status' hlater hstatus' (fun x hx => hsame x (List.mem_cons_of_mem f hx)) hawaits
      · obtain rfl : g = f := (List.mem_cons.mp hg).resolve_right hlater
        obtain rfl : status' = status := Except.error.inj (hstatus'.symm.trans hstatus)
        have halone (x : RingEntry) (hx : x ∈ failed) : x.ring ≠ g.ring := fun h =>
          hlater (hsame x (List.mem_cons_of_mem g hx) h ▸ hx)
        exact (hother g.ring halone).trans ((hw g.ring).trans (if_pos ⟨rfl, hawaits⟩))

/-- The Presentation Unit once a background has become front: of the queue the first entry that passes its second
check, if any, has become pending (R81). -/
structure PresentationUnit.Promoted (u : PresentationUnit) (s : State) (rest : List RingEntry) : Prop where
  nothing : rest = [] → u.pending = none ∧ u.queue = []
  first : ∀ e later b, rest = e :: later → s.checkPresent e.entry = .ok b →
    u.pending = some ⟨b, some e.ring⟩ ∧ u.queue = later

/-- What is left of the present queue after the heads that fail (R81, step 3). -/
theorem State.promoteQueue_rest (s : State) {u : PresentationUnit} (t : Transit) {rest : List RingEntry}
    (hnone : u.pending = none) (hrest : ∀ e ∈ rest.head?, ∃ b, (s.withBackgrounds u).checkPresent e.entry = .ok b) :
    ∃ w, State.promoteQueue rest ((s.withBackgrounds u).withTransit t) = (s.withBackgrounds w).withTransit t ∧
      w = { u with pending := w.pending, queue := w.queue } ∧ w.Promoted (s.withBackgrounds u) rest := by
  cases rest with
  | nil =>
    refine ⟨{ u with queue := [] }, ?_, rfl, ⟨fun _ => ⟨hnone, rfl⟩, nofun⟩⟩
    exact congrArg (State.withTransit · t) (State.withBackgrounds_withPresentation s (u := u) (w := { u with queue := [] })
      rfl rfl)
  | cons e later =>
    obtain ⟨b, hb⟩ := hrest e rfl
    have hb' : ((s.withBackgrounds u).withTransit t).checkPresent e.entry = .ok b :=
      (State.checkPresent_withTransit ..).trans hb
    refine ⟨{ u with pending := some ⟨b, some e.ring⟩, queue := later }, ?_, rfl, ⟨nofun, fun e' later' b' hsplit hok => ?_⟩⟩
    · rw [State.promoteQueue, hb']
      have hqueue := State.withBackgrounds_withPresentation s (u := u) (w := { u with queue := later }) rfl rfl
      show (((s.withBackgrounds u).withPresentation { u with queue := later }).withBackgrounds
        { u with pending := some ⟨b, some e.ring⟩, queue := later }).withTransit t = _
      rw [hqueue, State.withBackgrounds_withBackgrounds]
    · obtain ⟨rfl, rfl⟩ := List.cons.inj hsplit
      obtain rfl : b = b' := Except.ok.inj (hb.symm.trans hok)
      exact ⟨rfl, rfl⟩

/-- The Presentation Unit once the pending background `p` has become front (R81, step 2). -/
def PresentationUnit.shown (u : PresentationUnit) (p : PendingBackground) : PresentationUnit :=
  { u with front := p.background, pending := none }

/-- Promotion where a background is pending (R81): `u` is the Presentation Unit and `v` the answers it leaves. -/
theorem State.promote_spec {s : State} {p : PendingBackground} {failed rest : List RingEntry}
    (hpending : s.presentation.pending = some p) (hqueue : s.presentation.queue = failed ++ rest)
    (hfailed : ∀ f ∈ failed, ∃ status, s.checkPresent f.entry = .error status)
    (hrest : ∀ e ∈ rest.head?, ∃ b, s.checkPresent e.entry = .ok b) :
    ∃ u v, s.promote = (s.withBackgrounds u).withTransit { s.transit with answers := v } ∧
      u = { s.presentation with front := p.background, pending := u.pending, queue := u.queue } ∧
      u.Promoted s rest ∧
      (∀ r : RingId, (∀ f ∈ failed, f.ring ≠ r) → v[r] =
        if p.ring = some r ∧ (s.ring r).awaitsAnswer = true then some .done else s.transit.answers[r]) ∧
      ∀ f status, f ∈ failed → s.checkPresent f.entry = .error status →
        (∀ g ∈ failed, g.ring = f.ring → g = f) → (s.ring f.ring).awaitsAnswer = true →
        v[f.ring] = some (.failed status) := by
  have hcheck (e : WorkEntry) : (s.withBackgrounds (s.presentation.shown p)).checkPresent e = s.checkPresent e :=
    State.checkPresent_withBackgrounds s _ e rfl rfl
  obtain ⟨w, hanswer, hw⟩ := (s.withBackgrounds (s.presentation.shown p)).answerPresent_spec p.ring
  obtain ⟨v, hqueued, hother, hfails⟩ := State.promoteQueue_failed failed rest
    ((s.withBackgrounds (s.presentation.shown p)).withTransit { s.transit with answers := w })
    fun f hf => (hfailed f hf).imp fun _ h =>
      (State.checkPresent_withTransit ..).trans ((hcheck f.entry).trans h)
  obtain ⟨u, hrested, hu, hpromoted⟩ := s.promoteQueue_rest { s.transit with answers := v }
    (u := s.presentation.shown p) (rest := rest) rfl fun e he => (hrest e he).imp fun _ h => (hcheck e.entry).trans h
  simp only [State.withBackgrounds_frame, State.withTransit_ring, State.withTransit_transit,
    State.checkPresent_withTransit, hcheck] at hw hother hfails
  refine ⟨u, v, ?_, hu, ⟨hpromoted.nothing, fun e later b h hb => hpromoted.first e later b h ((hcheck _).trans hb)⟩,
    fun r hr => (hother r hr).trans (hw r), hfails⟩
  have hpromote : s.promote = State.promoteQueue (failed ++ rest)
      ((s.withBackgrounds (s.presentation.shown p)).answerPresent p.ring) := by
    rw [← hqueue]
    simp only [State.promote, hpending]
    rfl
  rw [hpromote, hanswer]
  exact hqueued.trans hrested

/-- What a frame start shows depends on the front background and the surfaces (R84). -/
theorem State.shownBackground_withTransit (s : State) (t : Transit) :
    (s.withTransit t).shownBackground = s.shownBackground := rfl

/-- The part after a frame start whose promotion leaves the Presentation Unit `u` and the answers `v`. -/
def State.framed (s : State) (u : PresentationUnit) (v : Vector (Option Answer) 4) : State :=
  let shown := (s.withPresentation u).withSurfaces (heldSurfaces u s.surfaces)
  shown.withTransit { s.transit with
    answers := v,
    laneFrames := s.transit.laneFrames ++ [⟨mapTable BlinkClass.phase u.blink, shown.shownBackground⟩],
    syncFrames := s.transit.syncFrames + 1,
    hostFrames := s.transit.hostFrames ++ [u.frameCounter] }

theorem State.frameStart_of_promote {s : State} {u : PresentationUnit} {v : Vector (Option Answer) 4}
    (h : s.nextFrame.promote = (s.nextFrame.withBackgrounds u).withTransit { s.transit with answers := v }) :
    s.frameStart = s.framed u.nextBlink v := by
  have hheld : (s.withBackgrounds u).withPresentation u.nextBlink = s.withBackgrounds u.nextBlink :=
    State.withBackgrounds_withPresentation s rfl rfl
  calc s.frameStart
      = (((s.withBackgrounds u).withPresentation u.nextBlink).withTransit
          { s.transit with answers := v }).announceFrame := by
        rw [State.frameStart_eq, h]
        rfl
    _ = s.framed u.nextBlink v := by
        rw [hheld]
        rfl

/-- Settles O23: `State.promote_spec` after the frame counter and before the blink classes and the announcement. -/
theorem frameStartMakesThePendingBackgroundFront : Obligations.FrameStartMakesThePendingBackgroundFront := by
  intro s p failed rest hstate hpending hqueue hfailed hrest
  have hcheck (e : WorkEntry) : s.nextFrame.checkPresent e = s.checkPresent e := rfl
  have hring (r : RingId) : s.nextFrame.ring r = s.ring r := rfl
  have htransit : s.nextFrame.transit = s.transit := rfl
  obtain ⟨u, v, hpromote, hu, hpromoted, hother, hfails⟩ := State.promote_spec (s := s.nextFrame) (p := p)
    (failed := failed) (rest := rest) hpending hqueue hfailed hrest
  simp only [hcheck, hring, htransit] at hpromote hother hfails
  refine ⟨s.frameStart, by rw [exec_frameStart, if_pos hstate], ?_⟩
  rw [State.frameStart_of_promote hpromote]
  have hunit : { s.presentation with
      frameCounter := s.presentation.frameCounter + 1, front := p.background, pending := u.nextBlink.pending,
      queue := u.nextBlink.queue, blink := u.nextBlink.blink } = u.nextBlink := by
    rw [PresentationUnit.nextBlink, hu]
    rfl
  have hfront : u.nextBlink.front = p.background := by rw [← hunit]
  have hcounter : u.nextBlink.frameCounter = s.presentation.frameCounter + 1 := by rw [← hunit]
  have hblink (b : BlinkId) : u.nextBlink.blink[b] = (s.presentation.blink[b]).frame := by
    rw [PresentationUnit.nextBlink_get, hu]
    rfl
  refine ⟨hfront, hpromoted.nothing, hpromoted.first, fun n => ?_, hother, hfails,
    fun b => (hblink b).trans (BlinkClass.frame_eq _), ?_⟩
  · simp [State.framed, State.surfaceAt, heldSurfaces]
  · simp only [State.framed, State.withTransit_presentation, State.withSurfaces_presentation,
      State.withPresentation_presentation, State.withTransit_surfaces, State.withSurfaces_surfaces,
      State.withTransit_transit, State.shownBackground_withTransit, hunit, hcounter]

/-! ### PRESENT (R79, R80) -/

theorem exec_present (r : RingId) (s : State) :
    exec (.present r) s = .next (s.takeRunningEntry r .present (fun _ => true) (State.servePresent r)) := rfl

section
variable {s : State} {r : RingId} {e : WorkEntry}

/-- What a PRESENT names (R79): nothing, no surface, or a surface. -/
theorem State.checkPresent_of_bad (h : 16 ≤ e.u8 0x04 ∧ e.u8 0x04 ≠ 0xFF) : s.checkPresent e = .error .badOperand := by
  simp [State.checkPresent, WorkEntry.presentArgs, presentSurfaceOfCode, Nat.not_lt.mpr h.1, h.2]

theorem State.checkPresent_of_blank (h : e.u8 0x04 = 0xFF) : s.checkPresent e = .ok (.blank (e.byte 0x05)) := by
  simp [State.checkPresent, WorkEntry.presentArgs, presentSurfaceOfCode, h]

theorem State.checkPresent_of_surface {n : SurfaceId} (h : e.u8 0x04 = n.1) :
    s.checkPresent e = match s.presentation.viewFails (s.surfaceAt n) (e.u16 0x06) (e.u16 0x08) with
      | some status => .error status
      | none => .ok (.view n (e.u16 0x06) (e.u16 0x08)) := by
  have hsurface : e.presentArgs = ⟨some (some n), e.byte 0x05, e.u16 0x06, e.u16 0x08⟩ := by
    simp [WorkEntry.presentArgs, presentSurfaceOfCode, h]
  simp only [State.checkPresent, hsurface]
  rfl

theorem State.servePresent_of_error {status : Status} (hw : s.waitsAt r e) (h : s.checkPresent e = .error status) :
    State.servePresent r e (s.clearHandover r) = s.answered r (.failed status) := by
  have hcheck : (s.clearHandover r).checkPresent e = .error status := h
  simp only [State.servePresent, hcheck]
  exact State.giveAnswer_clearHandover hw _

theorem State.servePresent_of_ok {b : Background} (h : s.checkPresent e = .ok b) :
    State.servePresent r e (s.clearHandover r) =
      if s.presentation.pending.isNone then (s.clearHandover r).setPendingBackground b r
      else (s.clearHandover r).withPresentation { s.presentation with
        queue := s.presentation.queue ++ [⟨r, e⟩] } := by
  have hcheck : (s.clearHandover r).checkPresent e = .ok b := h
  simp only [State.servePresent, hcheck]
  rfl

end

/-- Settles O24: the checks of `State.checkPresent`, and whether a background is pending. -/
theorem presentTakesABackground : Obligations.PresentTakesABackground := by
  refine ⟨fun s r hpart => ?_, fun s r e hpart hw hk => ?_⟩
  · rw [exec_present, State.takeRunningEntry_of_not_running hpart]
  intro named passes
  have htaken : exec (.present r) s = .next (State.servePresent r e (s.clearHandover r)) := by
    rw [exec_present, State.takeRunningEntry_of_waits hpart hw hk rfl]
  have hfails (status : Status) (h : s.checkPresent e = .error status) :
      exec (.present r) s = .next (s.answered r (.failed status)) := by
    rw [htaken, State.servePresent_of_error hw h]
  have hpasses (b : Background) (h : s.checkPresent e = .ok b) : passes b := by
    refine ⟨fun hnone => ?_, fun hsome => ?_⟩
    · rw [htaken, State.servePresent_of_ok h, if_pos (by simp [hnone])]
      rfl
    · rw [htaken, State.servePresent_of_ok h, if_neg (by simpa using hsome)]
  refine ⟨fun hbad => hfails _ (State.checkPresent_of_bad hbad), fun hblank => hpasses _ (State.checkPresent_of_blank
    hblank), fun n hn => ?_⟩
  have hsurface := State.checkPresent_of_surface (s := s) hn
  intro k inside
  refine ⟨fun hunset => hfails _ ?_, fun hset hbad => hfails _ ?_, fun hset hloc hdepth hinside => hpasses _ ?_⟩
  · have hview : s.presentation.viewFails k (e.u16 0x06) (e.u16 0x08) = some .notSet := if_pos hunset
    rw [hsurface, hview]
  · have hview : s.presentation.viewFails k (e.u16 0x06) (e.u16 0x08) = some .badOperand := by
      unfold PresentationUnit.viewFails
      rw [if_neg (by simp [hset])]
      by_cases hkind : k.space = .host ∨ k.depth ≠ 8
      · rw [if_pos hkind]
      · obtain ⟨hloc, hdepth⟩ := not_or.mp hkind
        have houtside : ¬inside := (hbad.resolve_left hloc).resolve_left hdepth
        rw [if_neg hkind, if_pos (by omega)]
    rw [hsurface, hview]
  · have hview : s.presentation.viewFails k (e.u16 0x06) (e.u16 0x08) = none := by
      unfold PresentationUnit.viewFails
      rw [if_neg (by simp [hset]), if_neg (by simp [hloc, hdepth]), if_neg (by omega)]
    rw [hsurface, hview]

end Sys2Proof.Machine
end

section
/-! PROOFS. The Sync Table (chapter 9): SIGNAL and lane additions, WAIT and WAIT_FRAME, frame starts, and the cancel
requests of section 7.3. -/

namespace Sys2Proof.Machine

/-! ### Counters (R179, R180) -/

theorem saturatingAdd_eq (a b : Word) : saturatingAdd a b = BitVec.ofNat 32 (min (2 ^ 32 - 1) (a.toNat + b.toNat)) := by
  have ha := a.isLt
  have hb := b.isLt
  apply BitVec.eq_of_toNat_eq
  unfold saturatingAdd
  split
  · rw [BitVec.toNat_add, BitVec.toNat_ofNat]
    omega
  · rw [BitVec.toNat_allOnes, BitVec.toNat_ofNat]
    omega

theorem Waiter.satisfied_iff {c : CounterId} {value : Word} {w : Waiter} :
    Waiter.satisfied c value w = true ↔ w.counter = c ∧ w.value.toNat ≤ value.toNat := by
  simp [Waiter.satisfied]

/-- The rings that a counter's new value answers (R180). -/
theorem State.met_iff (s : State) (c : CounterId) (value : Word) (q : RingId) :
    ((∃ w ∈ s.sync.waiters, w.ring = q ∧ Waiter.satisfied c value w = true) ∧ (s.ring q).awaitsAnswer = true) ↔
      (s.ring q).awaitsAnswer = true ∧
        ∃ w ∈ s.sync.waiters, w.ring = q ∧ w.counter = c ∧ w.value.toNat ≤ value.toNat := by
  simp only [Waiter.satisfied_iff]
  exact and_comm

section
variable {s : State} {r : RingId} {e : WorkEntry}

theorem exec_signalAdd (r : RingId) (s : State) : exec (.signalAdd r) s =
    .next (s.takeRunningEntry r .signal (fun op => op != 1) (State.serveSignal r)) := rfl

theorem exec_signalSet (r : RingId) (s : State) : exec (.signalSet r) s =
    .next (s.takeRunningEntry r .signal (fun op => op == 1) (State.serveSignal r)) := rfl

/-- SIGNAL fails for a counter that there is none of, and for an operation that is neither ADD nor SET (R178). -/
theorem State.serveSignal_fails (hw : s.waitsAt r e) (h : 16 ≤ e.u8 0x04 ∨ 2 ≤ e.operation) :
    State.serveSignal r e (s.clearHandover r) = s.answered r (.failed .badOperand) := by
  rw [← State.giveAnswer_clearHandover hw]
  unfold State.serveSignal
  split
  · rename_i hcounter hoperation
    rcases h with h | h
    · simp [recordNumber_eq_none h] at hcounter
    · omega
  · rename_i hcounter hoperation
    rcases h with h | h
    · simp [recordNumber_eq_none h] at hcounter
    · omega
  · rfl

/-- A SIGNAL that changes counter `c` to `value`: the waiters it reaches and its own ring are answered OK. -/
theorem State.setCounter_giveAnswer_spec (hw : s.waitsAt r e) (c : CounterId) (value : Word) :
    ∃ t, ((s.clearHandover r).setCounter c value).giveAnswer r .done = t ∧
      t.sync = { s.sync with
        counters := update s.sync.counters c value,
        waiters := s.sync.waiters.filter fun w => !(Waiter.satisfied c value w) } ∧
      (∀ q : RingId, t.transit.answers[q] =
        if q = r ∨ ((s.ring q).awaitsAnswer = true ∧
            ∃ w ∈ s.sync.waiters, w.ring = q ∧ w.counter = c ∧ w.value.toNat ≤ value.toNat) then some .done
        else s.transit.answers[q]) ∧
      t = (s.withSync t.sync).withTransit { s.transit with
        handover := update s.transit.handover r none, answers := t.transit.answers } := by
  obtain ⟨v, hset, hv⟩ := (s.clearHandover r).setCounter_spec c value
  have hawaits : (((s.clearHandover r).setCounter c value).ring r).awaitsAnswer = true := by
    simpa using hw.2
  refine ⟨_, rfl, ?_⟩
  rw [State.giveAnswer_of_awaits hawaits, hset]
  refine ⟨rfl, fun q => ?_, rfl⟩
  show (update v r (some Answer.done))[q.1] = _
  rw [update_get, hv]
  by_cases hq : q = r
  · simp [hq]
  · simp only [hq, if_false, false_or]
    exact if_congr (s.met_iff c value q) rfl rfl

end

theorem exec_laneAddition_of_sent {s : State} {c : CounterId} (h : c ∈ s.transit.laneAdditions) :
    exec (.laneAddition c) s = .next ((s.withTransit { s.transit with
      laneAdditions := s.transit.laneAdditions.erase c }).addCounter c 1) :=
  congrArg Host.Outcome.next (if_pos h)

/-- Settles O28: each change of a counter is `State.setCounter_spec`, ADD by `saturatingAdd_eq`. -/
theorem signalsAndLaneAdditionsRetestWaiters : Obligations.SignalsAndLaneAdditionsRetestWaiters := by
  intro s changed met sum
  have hsum (c : CounterId) (v : Word) : saturatingAdd (s.counter c) v = sum c v := saturatingAdd_eq _ _
  refine ⟨fun r hpart => ?_, fun r e c hpart hw hk hc => ?_, fun r e hpart hw hk => ⟨fun hop hbad => ?_,
    fun hop hbad => ?_⟩, fun c hsent => ?_⟩
  · rw [exec_signalAdd, exec_signalSet, State.takeRunningEntry_of_not_running hpart,
      State.takeRunningEntry_of_not_running hpart]
    exact ⟨rfl, rfl⟩
  · intro taken
    have hcounter : recordNumber 16 (e.u8 0x04) = some c := recordNumber_eq_some hc
    refine ⟨fun hop => ?_, fun hop => ?_⟩
    · obtain ⟨t, ht, hsync, hanswers, hframe⟩ := State.setCounter_giveAnswer_spec hw c (sum c (e.word 0x08))
      refine ⟨t, ?_, hsync, hanswers, hframe⟩
      rw [exec_signalAdd, State.takeRunningEntry_of_waits hpart hw hk (by simp [hop]), State.serveSignal, hcounter, hop,
        ← ht, ← hsum]
      rfl
    · obtain ⟨t, ht, hsync, hanswers, hframe⟩ := State.setCounter_giveAnswer_spec hw c (e.word 0x08)
      refine ⟨t, ?_, hsync, hanswers, hframe⟩
      rw [exec_signalSet, State.takeRunningEntry_of_waits hpart hw hk (by simp [hop]), State.serveSignal, hcounter, hop,
        ← ht]
      rfl
  · rw [exec_signalSet, State.takeRunningEntry_of_waits hpart hw hk (by simp [hop]),
      State.serveSignal_fails hw (.inl hbad)]
  · rw [exec_signalAdd, State.takeRunningEntry_of_waits hpart hw hk (by simpa using hop),
      State.serveSignal_fails hw hbad]
  · obtain ⟨v, hset, hv⟩ := (s.withTransit { s.transit with
      laneAdditions := s.transit.laneAdditions.erase c }).setCounter_spec c (sum c 1)
    refine ⟨_, exec_laneAddition_of_sent hsent, ?_⟩
    have hadd : (s.withTransit { s.transit with
        laneAdditions := s.transit.laneAdditions.erase c }).addCounter c 1 = _ :=
      (congrArg (State.setCounter _ c) (hsum c 1)).trans hset
    rw [hadd]
    exact ⟨rfl, fun q => (hv q).trans (if_congr (s.met_iff c (sum c 1) q) rfl rfl), rfl⟩

/-! ### WAIT and WAIT_FRAME (R182, R185) -/

theorem exec_wait (r : RingId) (s : State) :
    exec (.wait r) s = .next (s.takeRunningEntry r .wait (fun _ => true) (State.serveWait r)) := rfl

theorem exec_waitFrame (r : RingId) (s : State) :
    exec (.waitFrame r) s = .next (s.takeRunningEntry r .waitFrame (fun _ => true) (State.serveWaitFrame r)) := rfl

/-- Settles O29: the checks of `State.serveWait` and `State.serveWaitFrame`. -/
theorem waitsJoinTheirLists : Obligations.WaitsJoinTheirLists := by
  refine ⟨fun s r hpart => ?_, fun s r e hpart hw => ⟨fun hk hbad => ?_, fun c hk hc => ?_, fun hk hzero => ?_,
    fun hk hframes => ?_⟩⟩
  · rw [exec_wait, exec_waitFrame, State.takeRunningEntry_of_not_running hpart,
      State.takeRunningEntry_of_not_running hpart]
    exact ⟨rfl, rfl⟩
  · rw [exec_wait, State.takeRunningEntry_of_waits hpart hw hk rfl, State.serveWait, recordNumber_eq_none hbad,
      ← State.giveAnswer_clearHandover hw]
  · rw [exec_wait, State.takeRunningEntry_of_waits hpart hw hk rfl, State.serveWait, recordNumber_eq_some hc,
      ← State.giveAnswer_clearHandover hw]
    exact ⟨fun hreached => congrArg Host.Outcome.next (if_pos hreached),
      fun hbelow => congrArg Host.Outcome.next (if_neg (Nat.not_le.mpr hbelow))⟩
  · rw [exec_waitFrame, State.takeRunningEntry_of_waits hpart hw hk rfl, State.serveWaitFrame, if_pos hzero,
      State.giveAnswer_clearHandover hw]
  · rw [exec_waitFrame, State.takeRunningEntry_of_waits hpart hw hk rfl, State.serveWaitFrame, if_neg hframes]
    rfl

/-! ### Frame starts at the Sync Table (R183, R185) -/

theorem exec_waitTimeout (r : RingId) (s : State) : exec (.waitTimeout r) s = .next (s.timeOutWaiter r) := rfl

theorem exec_frameWaitEnd (r : RingId) (s : State) : exec (.frameWaitEnd r) s = .next (s.endFrameWait r) := rfl

theorem exec_syncFrameStart_of_announced {s : State} {n : Nat} (h : s.transit.syncFrames = n + 1) :
    exec .syncFrameStart s = .next (s.withTransit { s.transit with syncFrames := n }).syncFrame := by
  show execSyncFrameStart s = _
  simp only [execSyncFrameStart, h, Nat.add_one_ne_zero, if_false, Nat.add_sub_cancel]

/-- Of a list of records, those that are not expired, when each record's ring is asked. -/
theorem filter_not_contains_and {α : Type} (l : List α) (ring : α → RingId) (p : α → Bool) :
    (l.filter fun w => !((l.map ring).contains (ring w) && p w)) = l.filter fun w => !p w := by
  refine List.filter_congr fun w hw => ?_
  have hmem : (l.map ring).contains (ring w) = true := by
    simpa using ⟨w, hw, rfl⟩
  rw [hmem, Bool.true_and]

/-- The whole handling of a frame start (R183): the records whose countdown runs out leave, and their rings are
answered, a frame wait's answer after a waiter's. -/
theorem State.syncFrame_spec (s : State) :
    ∃ v, s.syncFrame =
        (s.withSync { s.sync with
          waiters := s.sync.countDown.waiters.filter fun w => !w.expired,
          frameWaits := s.sync.countDown.frameWaits.filter fun w => !w.expired }).withTransit
          { s.transit with answers := v } ∧
      ∀ q : RingId, v[q.1] =
        if (∃ w ∈ s.sync.countDown.frameWaits, w.ring = q ∧ w.expired = true) ∧ (s.ring q).awaitsAnswer = true then
          some .done
        else if (∃ w ∈ s.sync.countDown.waiters, w.ring = q ∧ w.expired = true) ∧ (s.ring q).awaitsAnswer = true then
          some (.failed .waitTimeout)
        else s.transit.answers[q.1] := by
  obtain ⟨v, htimeout, hv⟩ := State.timeOutWaiters_spec (s.sync.countDown.waiters.map Waiter.ring)
    (s.withSync s.sync.countDown)
  obtain ⟨w, hend, hw⟩ := State.endFrameWaits_spec (s.sync.countDown.frameWaits.map FrameWait.ring)
    (State.timeOutWaiters (s.sync.countDown.waiters.map Waiter.ring) (s.withSync s.sync.countDown))
  have hring {α : Type} (l : List α) (ring : α → RingId) (p : α → Bool) (q : RingId) (P : Prop) :
      (q ∈ l.map ring ∧ (∃ x ∈ l, ring x = q ∧ p x = true) ∧ P) ↔ (∃ x ∈ l, ring x = q ∧ p x = true) ∧ P :=
    and_iff_right_of_imp fun ⟨⟨x, hx, hq, _⟩, _⟩ => List.mem_map.mpr ⟨x, hx, hq⟩
  refine ⟨w, ?_, fun q => ?_⟩
  · show State.endFrameWaits _ _ = _
    refine hend.trans ?_
    rw [htimeout]
    simp only [State.withSync_sync, State.withTransit_sync, filter_not_contains_and, State.withTransit_withSync,
      State.withSync_withSync, State.withTransit_withTransit, State.withTransit_transit, State.withSync_transit]
    rfl
  · rw [hw q, htimeout]
    simp only [State.withSync_sync, State.withTransit_sync, State.withTransit_ring, State.withSync_ring,
      State.withTransit_transit, State.withSync_transit, hv q, hring]

theorem SyncTable.mem_countDown_waiters {t : SyncTable} {q : RingId} :
    (∃ w ∈ t.countDown.waiters, w.ring = q ∧ w.expired = true) ↔
      ∃ w ∈ t.waiters, w.ring = q ∧ (w.countdown = some 1 ∨ w.countdown = some 0) := by
  have hone (w : Waiter) : (w.countdown.map (· - 1) == some 0) = true ↔ w.countdown = some 1 ∨ w.countdown = some 0 := by
    cases w.countdown with
    | none => simp
    | some n => simp; omega
  simp only [SyncTable.countDown, List.mem_map, exists_exists_and_eq_and, Waiter.expired, hone]

theorem SyncTable.mem_countDown_frameWaits {t : SyncTable} {q : RingId} :
    (∃ w ∈ t.countDown.frameWaits, w.ring = q ∧ w.expired = true) ↔
      ∃ w ∈ t.frameWaits, w.ring = q ∧ w.countdown ≤ 1 := by
  have hone (w : FrameWait) : (w.countdown - 1 == 0) = true ↔ w.countdown ≤ 1 := by
    rw [beq_iff_eq]
    omega
  simp only [SyncTable.countDown, List.mem_map, exists_exists_and_eq_and, FrameWait.expired, hone]

/-- Settles O30: `State.syncFrame_spec`, and the two rows that end one record. -/
theorem frameStartsEndExpiredWaits : Obligations.FrameStartsEndExpiredWaits := by
  intro s
  refine ⟨fun n hn => ?_, fun w hw hzero hawaits => ?_, fun w hw hzero hawaits => ?_⟩
  · obtain ⟨v, hframe, hv⟩ := (s.withTransit { s.transit with syncFrames := n }).syncFrame_spec
    refine ⟨_, exec_syncFrameStart_of_announced hn, ?_⟩
    rw [hframe]
    refine ⟨rfl, fun q => (hv q).trans (if_congr ?_ rfl (if_congr ?_ rfl rfl)), rfl⟩
    · exact and_comm.trans (and_congr_right' SyncTable.mem_countDown_frameWaits)
    · exact and_comm.trans (and_congr_right' SyncTable.mem_countDown_waiters)
  · have hexpired : s.sync.waiters.any (fun v => v.ring == w.ring && v.expired) = true :=
      List.any_eq_true.mpr ⟨w, hw, by simp [Waiter.expired, hzero]⟩
    rw [exec_waitTimeout, State.timeOutWaiter, if_pos hexpired, State.giveAnswer_of_awaits (by exact hawaits)]
    rfl
  · have hexpired : s.sync.frameWaits.any (fun v => v.ring == w.ring && v.expired) = true :=
      List.any_eq_true.mpr ⟨w, hw, by simp [FrameWait.expired, hzero]⟩
    rw [exec_frameWaitEnd, State.endFrameWait, if_pos hexpired, State.giveAnswer_of_awaits (by exact hawaits)]
    rfl

/-! ### Cancel requests (R82, R186) -/

theorem exec_syncCancelRequest_of_sent {s : State} {r : RingId} (hsent : s.transit.syncCancel[r] = true)
    (htaken : s.handedOver r = none) :
    exec (.syncCancelRequest r) s = .next ((s.withTransit { s.transit with
      syncCancel := update s.transit.syncCancel r false }).cancelWait r) :=
  congrArg Host.Outcome.next (if_pos (by rw [hsent, htaken]; rfl))

theorem exec_presentCancelRequest_of_sent {s : State} {r : RingId} (hsent : s.transit.presentCancel[r] = true)
    (htaken : s.handedOver r = none) :
    exec (.presentCancelRequest r) s = .next ((s.withTransit { s.transit with
      presentCancel := update s.transit.presentCancel r false }).cancelPresent r) :=
  congrArg Host.Outcome.next (if_pos (by rw [hsent, htaken]; rfl))

/-- Settles O31: a request finds a record of its ring, or none. -/
theorem cancelRequestsEndWaits : Obligations.CancelRequestsEndWaits := by
  intro s r htaken hawaits cancelled
  refine ⟨fun hsent => ?_, fun hsent => ?_⟩
  · intro t has
    have hhas : (s.sync.waiters.any (fun w => w.ring == r) || s.sync.frameWaits.any fun w => w.ring == r) = true ↔ has := by
      simp [has]
    rw [exec_syncCancelRequest_of_sent hsent htaken]
    refine ⟨fun h => ?_, fun h => congrArg Host.Outcome.next (if_neg fun h' => h (hhas.mp h'))⟩
    rw [State.cancelWait, if_pos (by exact hhas.mpr h), State.giveAnswer_of_awaits (by exact hawaits)]
    rfl
  · intro t has
    have hhas : (s.presentation.queue.any fun e => e.ring == r) = true ↔ has := by
      simp [has]
    rw [exec_presentCancelRequest_of_sent hsent htaken]
    refine ⟨fun h => ?_, fun h => congrArg Host.Outcome.next (if_neg fun h' => h (hhas.mp h'))⟩
    rw [State.cancelPresent, if_pos (by exact hhas.mpr h), State.giveAnswer_of_awaits (by exact hawaits)]
    rfl

end Sys2Proof.Machine
end

section
/-! PROOFS. The Intake Unit's handling of entries (sections 7.3 to 7.11): abandon walks, skipped and failing entries,
owners' answers, accepted reports, status writes, and the fetch arbiter. -/

namespace Sys2Proof.Machine

section
variable (s : State) (r : RingId)

/-! ### Abandon walks (R151, R152) -/

theorem State.endWalk_eq (w : Walk) (isOpen : Bool) :
    s.endWalk r w isOpen =
      (s.modRing r fun k => { k with walk := none, skip := isOpen }).offerRingReport r (w.report isOpen) := rfl

/-- A failing entry without CONT ends its walk closed at once (R151). -/
theorem State.openWalk_closed (w : Walk) :
    s.openWalk r w false =
      (s.modRing r fun k => { k with service := none, walk := none, skip := false }).offerRingReport r
        (w.report false) := by
  show (s.modRing r fun k => { k with service := none }).endWalk r w false = _
  rw [State.endWalk_eq, State.modRing_modRing]

/-- A failing entry with CONT ends its walk open at once where nothing more is posted (R151). -/
theorem State.openWalk_open (w : Walk) (h : (s.ring r).head = (s.ring r).post) :
    s.openWalk r w true =
      (s.modRing r fun k => { k with service := none, walk := none, skip := true }).offerRingReport r
        (w.report true) := by
  simp only [State.openWalk, h, Bool.not_true, Bool.false_eq_true, if_false, if_true, State.endWalk_eq,
    State.modRing_modRing]

/-- A failing entry with CONT opens a walk over what is posted behind it (R151). -/
theorem State.openWalk_goes_on (w : Walk) (h : (s.ring r).head ≠ (s.ring r).post) :
    s.openWalk r w true =
      s.modRing r fun k => { k with service := none, walk := some w, phase := .fetching } := by
  simp only [State.openWalk, h, Bool.not_true, Bool.false_eq_true, if_false, State.modRing_modRing]

end

/-! ### The end of a fetch (R142, R153, R154) -/

/-- The end of a fetch in a part that is not RUNNING drops it (R158). -/
theorem exec_entryFetchEnd_of_not_running {s : State} {f : EntryFetch} (read : ReadEnd) (hpart : s.part ≠ .running)
    (hfetch : s.intake.fetch = some f) : exec (.entryFetchEnd read) s = .next s.fetchDone := by
  simp only [exec_entryFetchEnd, execEntryFetchEnd, hfetch, State.isRunning_of_not_running hpart, Bool.false_eq_true,
    if_false]
  rfl

section
variable {s : State} {r : RingId}

theorem State.fetched_of_walk {w : Walk} (read : ReadEnd) (hwalk : (s.ring r).walk = some w) :
    s.fetched r read = s.walkFetched r w read := by
  simp only [State.fetched, hwalk]

theorem State.fetched_of_stopping (read : ReadEnd) (hwalk : (s.ring r).walk = none)
    (hstate : (s.ring r).state = .stopping) :
    s.fetched r read = (s.modRing r fun k => { k with phase := .idle, state := .stopped }).statusDue r := by
  simp only [State.fetched, hwalk, hstate, if_true, State.idleRing]
  exact congrArg (State.statusDue · r) (State.modRing_congr s r (by simp [Ring.toIdle, hstate]))

theorem State.fetched_of_skip (bytes : List Byte) (hwalk : (s.ring r).walk = none)
    (hstate : (s.ring r).state ≠ .stopping) (hskip : (s.ring r).skip = true) :
    s.fetched r (.ok bytes) = (s.modRing r fun k => { k with
      head := (k.head + 1) % k.size, done := (k.head + 1) % k.size, skip := (WorkEntry.mk bytes).cont,
      phase := .idle }).statusDue r := by
  simp only [State.fetched, hwalk, hstate, hskip, if_false, if_true, State.skipEntry]
  exact congrArg (State.statusDue · r) (State.modRing_congr s r (by simp [Ring.toIdle, hstate, hskip, indexPast]))

/-- A fetch for execution that ends with a bus error is a ring fault that leaves head (R154). -/
theorem State.fetched_busError (hwalk : (s.ring r).walk = none) (hstate : (s.ring r).state ≠ .stopping) :
    s.fetched r .busError = (s.modRing r fun k => { k with
      faultMark := true, walk := none, skip := true }).offerRingReport r
        { index := (s.ring r).head, kind := 0, status := .busError, tag := 0,
          position := if (s.ring r).skip then 0 else (s.ring r).position + 1, skipped := 0, openGroup := true,
          detailA := 0, detailB := 0, after := .endGroup } := by
  simp only [State.fetched, hwalk, hstate, if_false, State.fetchFailed, State.endWalk_eq, State.modRing_modRing]
  rfl

/-- The walk that a ring fault opens (R144, R154). -/
def Ring.faultWalk (k : Ring) (e : WorkEntry) (status : Status) : Walk :=
  { index := k.head, kind := e.byte 0, tag := e.tag, position := k.position + 1, status := status,
    detailA := 0, detailB := 0, skipped := 0 }

/-- An unknown kind and a seventeenth member of a group are ring faults (R144). -/
theorem State.validateEntry_of_fault {e : WorkEntry} {status : Status}
    (h : (e.kind = none ∧ status = .badKind) ∨
      (e.kind ≠ none ∧ 16 ≤ (s.ring r).position ∧ status = .badChain)) :
    s.validateEntry r e = (s.modRing r fun k => { k with
      head := (k.head + 1) % k.size, faultMark := true }).openWalk r ((s.ring r).faultWalk e status) e.cont := by
  have hfault : (s.modRing r fun k => { k with head := indexPast k.size k.head }).ringFault r e (s.ring r).head status =
      (s.modRing r fun k => { k with head := (k.head + 1) % k.size, faultMark := true }).openWalk r
        ((s.ring r).faultWalk e status) e.cont := by
    simp only [State.ringFault, State.modRing_modRing, State.modRing_ring_self]
    rfl
  rw [← hfault]
  unfold State.validateEntry
  rcases h with ⟨hkind, rfl⟩ | ⟨hkind, hposition, rfl⟩
  · simp only [hkind]
  · obtain ⟨kind, hkind⟩ := Option.ne_none_iff_exists'.mp hkind
    have hlimit : Config.groupLimit ≤ (s.ring r).position := hposition
    simp only [hkind, hlimit, if_true]

end

/-- Settles O33: the end of a fetch by part state, ring state and skip flag, and the walk of a ring fault by CONT. -/
theorem fetchedEntryIsSkippedOrFails : Obligations.FetchedEntryIsSkippedOrFails := by
  intro s f hfetch r k base
  refine ⟨fun read hpart => exec_entryFetchEnd_of_not_running read hpart hfetch, fun read hpart hwalk hstate => ?_,
    fun bytes hpart hwalk hstate hskip => ?_, fun bytes status hpart hwalk hstate hskip => ?_,
    fun hpart hwalk hstate => ?_⟩
  · rw [exec_entryFetchEnd_of_running read hpart hfetch]
    exact congrArg (fun t => Host.Outcome.next (State.grantFetch t)) (State.fetched_of_stopping (s := base) read hwalk
      hstate)
  · rw [exec_entryFetchEnd_of_running _ hpart hfetch]
    exact congrArg (fun t => Host.Outcome.next (State.grantFetch t)) (State.fetched_of_skip (s := base) bytes hwalk
      hstate hskip)
  · intro e walk failed hcause
    have hvalidate : exec (.entryFetchEnd (.ok bytes)) s =
        .next ((base.modRing r fun k => { k with head := (k.head + 1) % k.size, faultMark := true }).openWalk r walk
          e.cont).grantFetch := by
      rw [exec_entryFetchEnd_of_running _ hpart hfetch]
      refine congrArg (fun t => Host.Outcome.next (State.grantFetch t)) ?_
      exact (State.fetched_of_executed (s := base) bytes hwalk hstate hskip).trans
        (State.validateEntry_of_fault (s := base) hcause)
    rw [hvalidate]
    refine ⟨fun hcont => ?_, fun hcont hpost => ?_, fun hcont hpost => ?_⟩
    · rw [hcont, State.openWalk_closed, State.modRing_modRing]
    · rw [hcont, State.openWalk_open _ _ _ (by rw [State.modRing_ring_self]; exact hpost), State.modRing_modRing]
    · rw [hcont, State.openWalk_goes_on _ _ _ (by rw [State.modRing_ring_self]; exact hpost), State.modRing_modRing]
  · rw [exec_entryFetchEnd_of_running _ hpart hfetch]
    exact congrArg (fun t => Host.Outcome.next (State.grantFetch t)) (State.fetched_busError (s := base) hwalk hstate)

/-- Settles O34: the fetch of a walk by its read, CONT and post. -/
theorem abandonWalkCountsTheSkippedEntries : Obligations.AbandonWalkCountsTheSkippedEntries := by
  intro s f w hpart hfetch hwalk r k base report
  have hfetched (read : ReadEnd) : exec (.entryFetchEnd read) s = .next (base.walkFetched r w read).grantFetch := by
    rw [exec_entryFetchEnd_of_running read hpart hfetch]
    exact congrArg (fun t => Host.Outcome.next (State.grantFetch t)) (State.fetched_of_walk (s := base) read hwalk)
  refine ⟨fun bytes hcont => ?_, fun bytes hcont hpost => ?_, fun bytes hcont hpost => ?_, ?_⟩
  · simp only [hfetched, State.walkFetched, hcont, Bool.not_false, if_true, State.endWalk_eq, State.modRing_modRing]
    rfl
  · have hend : indexPast (base.ring r).size (base.ring r).head = (base.ring r).post := hpost
    simp only [hfetched, State.walkFetched, hcont, hend, Bool.not_true, Bool.false_eq_true, if_false, if_true,
      State.endWalk_eq, State.modRing_modRing]
    rw [← hend]
    rfl
  · have hmore : indexPast (base.ring r).size (base.ring r).head ≠ (base.ring r).post := hpost
    simp only [hfetched, State.walkFetched, hcont, hmore, Bool.not_true, Bool.false_eq_true, if_false,
      State.modRing_modRing]
    rfl
  · simp only [hfetched, State.walkFetched, State.endWalk_eq, State.modRing_modRing]
    rfl

/-! ### Owners' answers (R148 to R151) -/

theorem exec_ownerAnswer (r : RingId) (s : State) : exec (.ownerAnswer r) s = execOwnerAnswer r s := rfl

/-- Outside RESETTING the Intake Unit takes no announcement before its other happenings. -/
theorem State.quiesceIntake_of_not_resetting {s : State} (h : s.part ≠ .resetting) : s.quiesceIntake = s :=
  if_neg fun hc => h hc.1

/-- During RESETTING the Intake Unit takes the reset's announcement first (R201). -/
theorem State.quiesceIntake_of_resetting {s : State} (hpart : s.part = .resetting)
    (hhalt : s.transit.halts.intake = true) : s.quiesceIntake = s.haltIntake :=
  if_pos ⟨hpart, hhalt⟩

theorem Transit.inTurn_iff {t : Transit} {r : RingId} :
    t.inTurn r = true ↔ r ∉ t.glyphAnswers ∨ t.glyphAnswers.head? = some r := by
  simp [Transit.inTurn]

/-- An answer that may be taken is taken, with the cancel requests on their way for its entry (R5, R148). -/
theorem exec_ownerAnswer_of_inTurn {s : State} {r : RingId} {a : Answer} (hpart : s.part ≠ .resetting)
    (hanswer : s.transit.answers[r] = some a) (hturn : s.transit.inTurn r = true) :
    exec (.ownerAnswer r) s =
      .next ((s.withTransit (s.transit.withoutAnswer r)).takeAnswer r a).grantFetch := by
  simp only [exec_ownerAnswer, execOwnerAnswer, State.quiesceIntake_of_not_resetting hpart, hanswer, hturn, if_true]

theorem Answer.completes_iff {a : Answer} : a.completes = true ↔ a.status = .ok ∨ a.status = .partially := by
  simp [Answer.completes]

section
variable {s : State} {r : RingId} {v : EntryInService} {a : Answer}

theorem State.takeAnswer_of_completes (hservice : (s.ring r).service = some v)
    (h : a.status = .ok ∨ a.status = .partially) : s.takeAnswer r a = s.completeEntry r v a := by
  simp only [State.takeAnswer, hservice, Answer.completes_iff.mpr h, if_true]

theorem State.takeAnswer_of_fails (hservice : (s.ring r).service = some v)
    (h : ¬(a.status = .ok ∨ a.status = .partially)) : s.takeAnswer r a = s.openWalk r (v.walk a) v.cont := by
  have hfails : ¬a.completes = true := fun hc => h (Answer.completes_iff.mp hc)
  simp only [State.takeAnswer, hservice, if_neg hfails]

/-- An entry that completes within its group, also on a STOPPING ring (R138, R149). -/
theorem State.completeEntry_within (hreport : v.report = false) (hcont : v.cont = true) :
    s.completeEntry r v a = (s.modRing r fun k => { k with service := none }).idleRing r := by
  simp [State.completeEntry, hreport, hcont]

/-- An entry that completes its group, also on a STOPPING ring (R138, R149, R150). -/
theorem State.completeEntry_last (hreport : v.report = false) (hcont : v.cont = false) :
    s.completeEntry r v a = (s.modRing r fun k => { k with service := none }).endGroup r := by
  simp [State.completeEntry, hreport, hcont]

end

/-- Settles O35: an answer that may be taken completes its entry or opens a walk; one that may not waits; during
RESETTING there is none left to take. -/
theorem ownerAnswerEndsTheEntry : Obligations.OwnerAnswerEndsTheEntry := by
  refine ⟨fun s r a v hpart hanswer hservice hturn => ?_, fun s q r rest hpart hqueue hrest hne => ?_,
    fun s r hpart hhalt => ?_⟩
  · intro k state base completes report failed
    rw [exec_ownerAnswer_of_inTurn hpart hanswer (Transit.inTurn_iff.mpr hturn)]
    have hservice' : ((s.withTransit (s.transit.withoutAnswer r)).ring r).service = some v := hservice
    refine ⟨fun hc hreport => ?_, fun hc hreport hcont => ?_, fun hc hreport hcont => ?_, fun hc hcont => ?_,
      fun hc hcont hpost => ?_, fun hc hcont hpost => ?_⟩
    · rw [State.takeAnswer_of_completes hservice' hc, State.completeEntry_of_report _ _ _ _ hreport]
      rfl
    · intro t
      rw [State.takeAnswer_of_completes hservice' hc, State.completeEntry_within hreport hcont]
      refine congrArg (fun t => Host.Outcome.next (State.grantFetch t)) ?_
      have hidle : base.modRing r Ring.toIdle = t :=
        State.modRing_congr base r (by simp only [base, State.modRing_ring_self]; rfl)
      have hstate : (base.ring r).state = k.state := by simp only [base, State.modRing_ring_self]; rfl
      show (if (base.ring r).state = .stopping then (base.modRing r Ring.toIdle).statusDue r
        else base.modRing r Ring.toIdle) = _
      rw [hidle, hstate]
    · rw [State.takeAnswer_of_completes hservice' hc, State.completeEntry_last hreport hcont]
      refine congrArg (fun t => Host.Outcome.next ((State.statusDue t r).grantFetch)) ?_
      exact State.modRing_congr base r (by simp only [base, State.modRing_ring_self]; rfl)
    · rw [State.takeAnswer_of_fails hservice' hc, hcont, State.openWalk_closed]
      simp only [failed, base, State.modRing_modRing]
      rfl
    · rw [State.takeAnswer_of_fails hservice' hc, hcont, State.openWalk_open _ _ _ (by exact hpost)]
      simp only [failed, base, State.modRing_modRing]
      rfl
    · rw [State.takeAnswer_of_fails hservice' hc, hcont, State.openWalk_goes_on _ _ _ (by exact hpost)]
      simp only [base, State.modRing_modRing]
      rfl
  · have hturn : ¬s.transit.inTurn r = true := by
      rw [Transit.inTurn_iff, hqueue]
      simp [hrest, hne]
    simp only [exec_ownerAnswer, execOwnerAnswer, State.quiesceIntake_of_not_resetting hpart, if_neg hturn]
    split <;> rfl
  · have hnone : s.haltIntake.transit.answers[r] = none := by
      simp [State.haltIntake]
    rw [exec_intakeHaltAnnouncement, if_pos hhalt]
    simp only [exec_ownerAnswer, execOwnerAnswer, State.quiesceIntake_of_resetting hpart hhalt, hnone]

/-! ### Accepted reports (R156) -/

theorem exec_reportAccepted (r : RingId) (s : State) : exec (.reportAccepted r) s = execReportAccepted r s := rfl

theorem exec_nop (r : RingId) (s : State) : exec (.nop r) s = execNop r s := rfl

/-- The state of a ring after the acceptance of its report (R138, R154). -/
def Ring.acceptedState (k : Ring) : RingState :=
  if k.faultMark then .faulted else if k.state = .stopping then .stopped else k.state

theorem Ring.accepted_of_endGroup (k : Ring) :
    k.accepted .endGroup = { k with
      reportDue := none, faultMark := false, state := k.acceptedState, phase := .idle, done := k.head,
      position := 0 } := by
  cases hmark : k.faultMark <;> simp [Ring.accepted, Ring.endGroup, Ring.toIdle, Ring.acceptedState, hmark]

theorem Ring.accepted_of_continues {k : Ring} {after : AfterReport} (h : after ≠ .endGroup) :
    k.accepted after = { k with
      reportDue := none, faultMark := false, state := k.acceptedState, phase := .idle } := by
  cases after with
  | endGroup => exact absurd rfl h
  | continueGroup | flushed => cases hmark : k.faultMark <;> simp [Ring.accepted, Ring.toIdle, Ring.acceptedState, hmark]

/-- Settles O36: the acceptance by `Ring.accepted_of_endGroup` and `Ring.accepted_of_continues`. -/
theorem reportAcceptedContinuesTheRing : Obligations.ReportAcceptedContinuesTheRing := by
  refine ⟨fun s r hpart => ⟨fun rep haccepted hreport => ?_, fun v hservice hkind hphase => ?_⟩,
    fun s r hpart hhalt => ?_⟩
  · intro k base state
    have haccept : exec (.reportAccepted r) s = .next (base.acceptReport r).grantFetch := by
      simp only [exec_reportAccepted, execReportAccepted, State.quiesceIntake_of_not_resetting hpart, haccepted, if_true]
      rfl
    have hreport' : (base.ring r).reportDue = some rep := hreport
    rw [haccept]
    refine ⟨fun hafter => ?_, fun hafter => ?_⟩
    · refine congrArg (fun t => Host.Outcome.next (State.grantFetch t)) ?_
      simp only [State.acceptReport, hreport', hafter, true_or, if_true]
      exact congrArg (State.statusDue · r) (State.modRing_congr base r (Ring.accepted_of_endGroup _))
    · intro t
      refine congrArg (fun t => Host.Outcome.next (State.grantFetch t)) ?_
      have hmod : (base.modRing r fun k => k.accepted rep.after) = t :=
        State.modRing_congr base r (Ring.accepted_of_continues hafter)
      have hstate : (t.ring r).state = state := by simp only [t, State.modRing_ring_self]
      simp only [State.acceptReport, hreport', hmod, hafter, false_or, hstate]
      by_cases hsame : state = k.state
      · rw [if_pos hsame]
        exact if_neg (not_not.mpr hsame)
      · rw [if_neg hsame]
        exact if_pos hsame
  · simp only [exec_nop, execNop, State.quiesceIntake_of_not_resetting hpart, hservice, hkind, hphase, and_self, if_true]
  · have haccepted : ¬s.haltIntake.transit.accepted[r] = true := by simp [State.haltIntake]
    have hservice : (s.haltIntake.ring r).service = none := by rw [State.haltIntake_ring]; rfl
    rw [exec_intakeHaltAnnouncement, if_pos hhalt]
    refine ⟨?_, ?_, s.haltIntake, rfl, fun q => ?_⟩
    · simp only [exec_reportAccepted, execReportAccepted, State.quiesceIntake_of_resetting hpart hhalt, if_neg haccepted]
    · simp only [exec_nop, execNop, State.quiesceIntake_of_resetting hpart hhalt, hservice]
    · rw [State.haltIntake_ring]
      exact ⟨rfl, rfl⟩

/-! ### Status word writes (R157) -/

theorem exec_statusWordWriteEnd (r : RingId) (error : Bool) (s : State) :
    exec (.statusWordWriteEnd r error) s = execStatusWordWriteEnd r error s := rfl

/-- A status write in flight that ends without error (R157). -/
theorem exec_statusWordWriteEnd_ok {s : State} {r : RingId} (h : (s.ring r).statusWrite ≠ .none) :
    exec (.statusWordWriteEnd r false) s = .next (s.modRing r fun k => k.statusEnded s.isRunning) := by
  simp only [exec_statusWordWriteEnd, execStatusWordWriteEnd, h, Bool.false_eq_true, if_false]

/-- A status write in flight that ends with a bus error (R157). -/
theorem exec_statusWordWriteEnd_busError {s : State} {r : RingId} (h : (s.ring r).statusWrite ≠ .none) :
    exec (.statusWordWriteEnd r true) s = .next (s.statusFailed r) := by
  simp only [exec_statusWordWriteEnd, execStatusWordWriteEnd, h, if_false, if_true]

section
variable {k : Ring} {w : StatusTransfer}

theorem Ring.dueStatus_of_none (h : k.statusWrite = .none) : k.dueStatus = { k with statusWrite := k.startStatus } := by
  simp only [Ring.dueStatus, h]

theorem Ring.dueStatus_of_inFlight (h : k.statusWrite = .inFlight w ∨ k.statusWrite = .inFlightAndDue w) :
    k.dueStatus = { k with statusWrite := .inFlightAndDue w } := by
  rcases h with h | h <;> simp only [Ring.dueStatus, h]

theorem Ring.statusEnded_of_inFlight {running : Bool} (h : k.statusWrite = .inFlight w) :
    k.statusEnded running = { k with statusWrite := .none } := by
  simp only [Ring.statusEnded, h]

theorem Ring.statusEnded_of_due (h : k.statusWrite = .inFlightAndDue w) :
    k.statusEnded true = { k with statusWrite := k.startStatus } := by
  simp only [Ring.statusEnded, h, if_true]

theorem Ring.statusEnded_of_not_running (h : k.statusWrite = .inFlight w ∨ k.statusWrite = .inFlightAndDue w) :
    k.statusEnded false = { k with statusWrite := .none } := by
  rcases h with h | h <;> simp only [Ring.statusEnded, h, Bool.false_eq_true, if_false]

end

/-- Settles O37: the write that falls due and the write that ends, by the status write field. -/
theorem statusWritesCarryTheLatestState : Obligations.StatusWritesCarryTheLatestState := by
  intro s r k word started
  have hinFlight {w : StatusTransfer} (h : k.statusWrite = .inFlight w ∨ k.statusWrite = .inFlightAndDue w) :
      k.statusWrite ≠ .none := by
    rcases h with h | h <;> simp [h]
  refine ⟨fun hpart hused hnone => ?_, fun w hpart hused hwrite => ?_, fun w hwrite => ?_, fun w hwrite hpart => ?_,
    fun w hwrite hpart => ?_, fun w hwrite hpart error => ?_⟩
  · rw [State.statusDue_of_used hpart hused]
    exact State.modRing_congr s r (Ring.dueStatus_of_none hnone)
  · rw [State.statusDue_of_used hpart hused]
    exact State.modRing_congr s r (Ring.dueStatus_of_inFlight hwrite)
  · rw [exec_statusWordWriteEnd_ok (hinFlight (.inl hwrite))]
    exact congrArg Host.Outcome.next (State.modRing_congr s r (Ring.statusEnded_of_inFlight hwrite))
  · rw [exec_statusWordWriteEnd_ok (hinFlight (.inr hwrite)), State.isRunning_of_running hpart]
    exact congrArg Host.Outcome.next (State.modRing_congr s r (Ring.statusEnded_of_due hwrite))
  · rw [exec_statusWordWriteEnd_busError (hinFlight hwrite)]
    simp only [State.statusFailed, State.isRunning_of_running hpart, if_true]
    rfl
  · have hrunning := State.isRunning_of_not_running hpart
    cases error with
    | true =>
      rw [exec_statusWordWriteEnd_busError (hinFlight hwrite)]
      simp only [State.statusFailed, hrunning, Bool.false_eq_true, if_false]
    | false =>
      rw [exec_statusWordWriteEnd_ok (hinFlight hwrite), hrunning]
      exact congrArg Host.Outcome.next (State.modRing_congr s r (Ring.statusEnded_of_not_running hwrite))

/-! ### The fetch arbiter (R141) -/

/-- In a list whose members are related in order, the first that satisfies `p` is related to every other. -/
theorem find?_pairwise {α : Type} {R : α → α → Prop} {p : α → Bool} {l : List α} {x : α} (hl : l.Pairwise R)
    (hx : l.find? p = some x) : ∀ y ∈ l, p y = true → y = x ∨ R x y := by
  induction l with
  | nil => simp at hx
  | cons z rest ih =>
    obtain ⟨hz, hrest⟩ := List.pairwise_cons.mp hl
    intro y hy hp
    by_cases hpz : p z = true
    · obtain rfl : z = x := by simpa [List.find?_cons, hpz] using hx
      exact (List.mem_cons.mp hy).imp_right (hz y)
    · have hx' : rest.find? p = some x := by simpa [List.find?_cons, hpz] using hx
      rcases List.mem_cons.mp hy with rfl | hy
      · exact absurd hp hpz
      · exact ih hrest hx' y hy hp

/-- The place of ring `r` in round-robin order (R141). -/
def IntakeUnit.turn (u : IntakeUnit) (r : RingId) : Nat := (r - u.lastServed - 1).1

theorem IntakeUnit.order_pairwise (u : IntakeUnit) : u.order.Pairwise fun q r => u.turn q < u.turn r := by
  have horder : ∀ last : RingId,
      [last + 1, last + 2, last + 3, last].Pairwise fun q r : RingId => (q - last - 1).1 < (r - last - 1).1 := by decide
  exact horder u.lastServed

theorem IntakeUnit.mem_order (u : IntakeUnit) (r : RingId) : r ∈ u.order := by
  have horder : ∀ last r : RingId, r ∈ [last + 1, last + 2, last + 3, last] := by decide
  exact horder u.lastServed r

theorem Ring.candidate_iff {k : Ring} :
    k.candidate = true ↔ k.head ≠ k.post ∧ (k.walk ≠ none ∨ (k.state = .active ∧ k.phase = .idle)) := by
  simp [Ring.candidate, Option.isSome_iff_ne_none]

/-- What the arbiter chooses is the first candidate in turn of the highest class that has one. -/
theorem IntakeUnit.chosen_spec {u : IntakeUnit} {r : RingId} (h : u.chosen = some r) :
    u.rings[r].candidate = true ∧
      (∀ q : RingId, u.rings[q].candidate = true → u.rings[q].cls = .urgent → u.rings[r].cls = .urgent) ∧
      ∀ q : RingId, u.rings[q].candidate = true → u.rings[q].cls = u.rings[r].cls → u.turn r ≤ u.turn q := by
  have hfirst {p : RingId → Bool} {q : RingId} (hp : u.order.find? p = some r) (hq : p q = true) :
      u.turn r ≤ u.turn q := by
    rcases find?_pairwise u.order_pairwise hp q (u.mem_order q) hq with rfl | hlt
    · exact le_rfl
    · exact hlt.le
  rcases Option.or_eq_some_iff.mp h with hurgent | ⟨hnone, hnormal⟩
  · have hr := List.find?_some hurgent
    simp only [Bool.and_eq_true, beq_iff_eq] at hr
    refine ⟨hr.1, fun _ _ _ => hr.2, fun q hq hcls => hfirst hurgent ?_⟩
    simp only [Bool.and_eq_true, beq_iff_eq]
    exact ⟨hq, hcls.trans hr.2⟩
  · refine ⟨List.find?_some (p := fun r : RingId => u.rings[r].candidate) hnormal, fun q hq hcls => ?_, fun q hq _ => hfirst hnormal hq⟩
    exact absurd (Bool.and_eq_true_iff.mpr ⟨hq, beq_iff_eq.mpr hcls⟩) (List.find?_eq_none.mp hnone q (u.mem_order q))

theorem IntakeUnit.chosen_eq_none_iff {u : IntakeUnit} :
    u.chosen = none ↔ ∀ r : RingId, ¬u.rings[r].candidate = true := by
  simp only [IntakeUnit.chosen, Option.or_eq_none_iff, List.find?_eq_none]
  constructor
  · exact fun h r => h.2 r (u.mem_order r)
  · exact fun h => ⟨fun r _ hr => h r (Bool.and_eq_true_iff.mp hr).1, fun r _ => h r⟩

theorem State.grantFetch_of_chosen {s : State} {r : RingId} (hpart : s.part = .running) (hfetch : s.intake.fetch = none)
    (h : s.intake.chosen = some r) :
    s.grantFetch = (s.modRing r fun k => { k with phase := .fetching }).withIntake { s.intake with
      rings := update s.intake.rings r { s.ring r with phase := .fetching },
      fetch := some ⟨r, (s.ring r).base.toNat + (s.ring r).head * 32⟩, lastServed := r } := by
  simp only [State.grantFetch, State.isRunning_of_running hpart, hfetch, h]
  rfl

/-- Settles O38: `IntakeUnit.chosen_spec`. -/
theorem fetchArbiterServesUrgentRingsFirst : Obligations.FetchArbiterServesUrgentRingsFirst := by
  intro s candidate turn
  have hcandidate (r : RingId) : s.intake.rings[r].candidate = true ↔ candidate r := Ring.candidate_iff
  refine ⟨fun h => ?_, fun hpart hfetch hsome => ?_⟩
  · unfold State.grantFetch
    split
    · rename_i r hrunning hfetch hchosen
      rcases h with hpart | hbusy | hnone
      · exact absurd (State.isRunning_eq_true_iff.mp hrunning) hpart
      · exact absurd hfetch hbusy
      · exact absurd ((hcandidate r).mp (IntakeUnit.chosen_spec hchosen).1) (hnone r)
    · rfl
  · cases hchosen : s.intake.chosen with
    | none =>
      obtain ⟨r, hr⟩ := hsome
      exact absurd ((hcandidate r).mpr hr) (IntakeUnit.chosen_eq_none_iff.mp hchosen r)
    | some r =>
      obtain ⟨hr, hurgent, hturn⟩ := IntakeUnit.chosen_spec hchosen
      exact ⟨r, (hcandidate r).mp hr, fun q hq => hurgent q ((hcandidate q).mpr hq),
        fun q hq => hturn q ((hcandidate q).mpr hq), State.grantFetch_of_chosen hpart hfetch hchosen⟩

/-! ### The end of a report write (R168, R169) -/

theorem exec_reportWriteEnd {s : State} (error : Bool) (h : s.report.write ≠ none) :
    exec (.reportWriteEnd error) s = .next (if error then s.reportWriteFailed else s.reportWritten) :=
  congrArg Host.Outcome.next (if_neg (by simpa using h))

/-- Settles O40: the write's end by its error, and a bus error by the part state. -/
theorem reportWriteEndMovesTheWriteIndex : Obligations.ReportWriteEndMovesTheWriteIndex := by
  intro s e hwrite u
  have hsome : s.report.write ≠ none := by simp [hwrite]
  refine ⟨?_, fun hpart => ?_, fun hpart => ?_⟩
  · rw [exec_reportWriteEnd _ hsome]
    rfl
  · rw [exec_reportWriteEnd _ hsome]
    simp only [if_true, State.reportWriteFailed, State.isRunning_of_running hpart]
    rfl
  · rw [exec_reportWriteEnd _ hsome]
    simp only [if_true, State.reportWriteFailed, State.isRunning_of_not_running hpart, Bool.false_eq_true, if_false]
    rfl

end Sys2Proof.Machine
end


section
/-! PROOFS. The halt announcements of the six blocks besides the Intake Unit (R29, R53, R87, R128, R175, R187). -/

namespace Sys2Proof.Machine

/-! ### A handling that answers nothing -/

theorem State.putBlocks_of_silent (s : State) {b : Blocks} (h : b.outbox = []) :
    s.putBlocks b = (((s.withGlyph b.glyph).withLane b.lane).withRaster b.raster).withSurfaces b.surfaces := by
  rw [State.putBlocks, h]
  rfl

/-! ### The Glyph Table (R29) -/

theorem exec_glyphTableHaltAnnouncement {s : State} (h : s.transit.halts.glyph = true) :
    exec .glyphTableHaltAnnouncement s = .next s.haltGlyph := congrArg Host.Outcome.next (if_pos h)

/-- What is left of the waiters of a slot once a preload and a define have withdrawn (R21, R29). -/
theorem filter_preload_define (l : List Requester) :
    (l.filter (· != .preload)).filter (· != .define) = l.filter fun w => !(w == .preload || w == .define) := by
  rw [List.filter_filter]
  congr 1
  funext w
  cases w <;> rfl

namespace GlyphTable

theorem abandon_slots (g : GlyphTable) (n : SlotId) : g.abandon.slots[n.1] = { g.slots[n.1] with
    waiters := g.slots[n.1].waiters.filter fun w => !(w == .preload || w == .define), defineWait := false } := by
  rw [← filter_preload_define]
  simp [GlyphTable.abandon, GlyphTable.clearDefineWaits, GlyphTable.withdraw]

/-- The requests that a halt leaves (R21, R29). -/
theorem abandon_queue (g : GlyphTable) :
    g.abandon.queue = g.queue.filter fun q => !(q.who == .preload || q.who == .define) := by
  have hwithdraws : g.abandon.queue = (g.queue.filter fun q => q.who != .preload).filter fun q => q.who != .define := rfl
  rw [hwithdraws, List.filter_filter]
  congr 1
  funext q
  cases q.who <;> rfl

/-- A fill in progress runs on, unanswered where a preload or a define asked for it (R21, R29). -/
theorem abandon_fetch (g : GlyphTable) : g.abandon.fetch = g.fetch.map fun f =>
    if f.who = some .preload ∨ f.who = some .define then { f with who := none } else f := by
  have hwithdraws : g.abandon.fetch = (g.fetch.map fun f => if f.who = some .preload then { f with who := none } else f).map
      fun f => if f.who = some .define then { f with who := none } else f := rfl
  rw [hwithdraws, Option.map_map]
  congr 1
  funext f
  by_cases hpreload : f.who = some .preload <;> simp [hpreload]

theorem abandon_eq (g : GlyphTable) : g.abandon = { g with
    service := none, entries := [], staging := none, defineRead := none,
    lostReads := g.lostReads ++ g.defineRead.toList,
    queue := g.queue.filter fun q => !(q.who == .preload || q.who == .define),
    fetch := g.fetch.map fun f =>
      if f.who = some .preload ∨ f.who = some .define then { f with who := none } else f,
    slots := g.abandon.slots } := by
  rw [← abandon_queue, ← abandon_fetch]
  rfl

end GlyphTable

/-! ### The Lane Unit (R53) -/

theorem exec_laneUnitHaltAnnouncement {s : State} (h : s.transit.halts.lane = true) :
    exec .laneUnitHaltAnnouncement s = .next s.haltLane := congrArg Host.Outcome.next (if_pos h)

theorem State.haltLane_of_idle {s : State} (h : s.lane.service = none) :
    s.haltLane = (s.withLane { s.lane with entries := [] }).withTransit { s.transit.dropHandovers Kind.isLane with
      halts := { s.transit.halts with lane := false } } := by
  have hblocks : s.blocks.haltLane = { s.blocks with lane := { s.lane with entries := [] } } := by
    simp [Blocks.haltLane, State.blocks, h]
  simp only [State.haltLane, hblocks]
  rfl

theorem State.haltLane_of_edit {s : State} {v : LaneService} (h : s.lane.service = some v) :
    s.haltLane = ((s.withGlyph (GlyphTable.unpinAll (s.lane.staging.map fun c => c.cell.slot)
        (if v.current = none then s.glyph else s.glyph.withdraw .laneEdit))).withLane { s.lane with
          staging := [], service := none, entries := [],
          lostReads := s.lane.lostReads ++ v.read.toList }).withTransit
      { s.transit.dropHandovers Kind.isLane with halts := { s.transit.halts with lane := false } } := by
  have hblocks : s.blocks.haltLane = { s.blocks with
      glyph := GlyphTable.unpinAll (s.lane.staging.map fun c => c.cell.slot)
        (if v.current = none then s.glyph else s.glyph.withdraw .laneEdit),
      lane := { s.lane with
        staging := [], service := none, entries := [], lostReads := s.lane.lostReads ++ v.read.toList } } := by
    cases hcurrent : v.current <;> simp [Blocks.haltLane, Blocks.dropStaging, State.blocks, h, hcurrent]
  simp only [State.haltLane, hblocks]
  rfl

/-! ### The Raster Engine (R128) -/

theorem exec_rasterHaltAnnouncement {s : State} (h : s.transit.halts.raster = true) :
    exec .rasterHaltAnnouncement s = .next s.haltRaster := congrArg Host.Outcome.next (if_pos h)

theorem State.haltRaster_of_drawing {s : State} (h : s.raster.step = .drawing) :
    s.haltRaster = (s.withRaster { s.raster with finishing := true }).withTransit
      { s.transit.dropHandovers Kind.isRaster with halts := { s.transit.halts with raster := false } } := by
  have hblocks : s.blocks.haltRaster = { s.blocks with raster := { s.raster with finishing := true } } := by
    simp [Blocks.haltRaster, State.blocks, h]
  simp only [State.haltRaster, hblocks]
  rfl

/-- An operation that holds no stamp is abandoned by clearing its marks (R128). -/
theorem Blocks.finishAbandoned_of_no_stamp {b : Blocks} {c : Claim} (hservice : b.raster.service = some c)
    (hstamp : b.raster.stamp = none) :
    ∃ v : Vector Surface 16,
      b.finishAbandoned = { b with
        surfaces := v, raster := { RasterEngine.idle with lostReads := b.raster.lostReads } } ∧
      ∀ n : SurfaceId, v[n.1] = { b.surfaces[n.1] with
        mark := b.surfaces[n.1].mark &&
          !decide (c.entry.rasterArgs.dst = some n ∨ c.entry.rasterArgs.src = some n) } := by
  obtain ⟨v, hmarks, hv⟩ := Blocks.setMark_spec b c.entry.rasterArgs.dst c.entry.rasterArgs.src false
  refine ⟨v, by simp [Blocks.finishAbandoned, Blocks.unpinStamp, hservice, hstamp, hmarks], fun n => ?_⟩
  rw [hv n]
  by_cases hnamed : c.entry.rasterArgs.dst = some n ∨ c.entry.rasterArgs.src = some n <;> simp [hnamed]

/-- What a halt makes of the blocks where the engine does not draw and holds no stamp (R128). -/
theorem Blocks.haltRaster_of_not_drawing {b : Blocks} {c : Claim} (hstep : b.raster.step ≠ .drawing)
    (hservice : b.raster.service = some c) (hstamp : b.raster.stamp = none) :
    ∃ v : Vector Surface 16,
      b.haltRaster = { b with
        glyph := if b.raster.step = .readingList ∨ b.raster.step = .none then b.glyph else b.glyph.withdraw .text,
        surfaces := v,
        raster := { RasterEngine.idle with lostReads := b.raster.lostReads ++
          (if b.raster.step = .readingList ∨ b.raster.step = .none then b.raster.codeRead.toList else []) } } ∧
      ∀ n : SurfaceId, v[n.1] = { b.surfaces[n.1] with
        mark := b.surfaces[n.1].mark &&
          !decide (c.entry.rasterArgs.dst = some n ∨ c.entry.rasterArgs.src = some n) } := by
  cases h : b.raster.step with
  | drawing => exact absurd h hstep
  | lookingUp =>
    obtain ⟨v, hends, hv⟩ := Blocks.finishAbandoned_of_no_stamp
      (b := { b with glyph := b.glyph.withdraw .text }) hservice hstamp
    exact ⟨v, by simp [Blocks.haltRaster, h, hends], hv⟩
  | none | readingList =>
    obtain ⟨v, hends, hv⟩ := Blocks.finishAbandoned_of_no_stamp
      (b := { b with raster := { b.raster with
        codeRead := none, lostReads := b.raster.lostReads ++ b.raster.codeRead.toList } }) hservice hstamp
    exact ⟨v, by simpa [Blocks.haltRaster, h] using hends, hv⟩

/-- Settles O20: each block by the lemma about its own announcement. -/
theorem haltsDropTheWorkOfTheBlocks : Obligations.HaltsDropTheWorkOfTheBlocks := by
  intro s
  refine ⟨fun hhalt => congrArg Host.Outcome.next (if_pos hhalt),
    fun hhalt => ⟨_, congrArg Host.Outcome.next (if_pos hhalt), rfl, rfl, rfl⟩,
    fun hhalt => ⟨_, congrArg Host.Outcome.next (if_pos hhalt), rfl, rfl⟩, fun hhalt => ?_, fun hhalt hidle => ?_,
    fun v hhalt hedit => ?_, fun hhalt hstep => ?_, fun c hhalt hstep hservice hstamp => ?_⟩
  · exact ⟨s.haltGlyph, exec_glyphTableHaltAnnouncement hhalt, rfl, s.glyph.abandon_eq,
      fun n => s.glyph.abandon_slots n, rfl, rfl⟩
  · exact ⟨_, (exec_laneUnitHaltAnnouncement hhalt).trans (congrArg _ (State.haltLane_of_idle hidle)), rfl, rfl⟩
  · exact ⟨_, (exec_laneUnitHaltAnnouncement hhalt).trans (congrArg _ (State.haltLane_of_edit hedit)), rfl, rfl⟩
  · exact ⟨_, (exec_rasterHaltAnnouncement hhalt).trans (congrArg _ (State.haltRaster_of_drawing hstep)), rfl, rfl⟩
  · obtain ⟨v, hblocks, hv⟩ := Blocks.haltRaster_of_not_drawing (b := s.blocks) hstep hservice hstamp
    refine ⟨s.haltRaster, exec_rasterHaltAnnouncement hhalt, ?_, fun n => ?_, ?_, ?_⟩
    · simp only [State.haltRaster, hblocks]
      rfl
    · simp only [State.haltRaster, hblocks]
      exact hv n
    · simp only [State.haltRaster, hblocks]
      rfl
    · simp only [State.haltRaster, hblocks]
      rfl

end Sys2Proof.Machine
end


section
/-! PROOFS. The motion of lanes at a frame start (sections 3.1 to 3.3): the stops, the step or jump of one lane, what
a completed pass makes of its lane and of the reports, and the lanes of a whole frame start. -/

namespace Sys2Proof.Machine

/-! ### The stops (R55) -/

/-- The greatest of a list of stops bounds each of them, and is one of them or 0. -/
theorem greatest_spec (l : List Nat) : (∀ x ∈ l, x ≤ greatest l) ∧ (greatest l = 0 ∨ greatest l ∈ l) := by
  have hmax : (0 :: l).max? = some (greatest l) := List.max?_cons'
  obtain ⟨hmem, hbound⟩ := List.max?_eq_some_iff.mp hmax
  exact ⟨fun x hx => hbound x (List.mem_cons_of_mem _ hx), List.mem_cons.mp hmem⟩

section

variable (k : Lane) (advance p : Nat)

theorem Lane.mem_stops (x : Nat) :
    x ∈ k.stops advance ↔ (∃ i ≤ k.cells.length, x = i * advance) ∧ x < k.cycle advance := by
  simp only [Lane.stops, List.mem_filter, List.mem_map, List.mem_range, decide_eq_true_eq, Nat.lt_succ_iff]
  exact and_congr_left fun _ => exists_congr fun i => and_congr_right fun _ => eq_comm

theorem Lane.zero_mem_stops (h : 0 < k.cycle advance) : 0 ∈ k.stops advance :=
  (k.mem_stops advance 0).mpr ⟨⟨0, Nat.zero_le _, (Nat.zero_mul _).symm⟩, h⟩

theorem Lane.stops_pairwise : (k.stops advance).Pairwise (· ≤ ·) := by
  refine List.Pairwise.filter _ (List.pairwise_map.mpr ?_)
  exact List.pairwise_lt_range.imp fun h => Nat.mul_le_mul_right advance h.le

/-- The head of an ascending list is its least element; 0 stands for an empty list. -/
theorem headD_spec {l : List Nat} (h : l.Pairwise (· ≤ ·)) :
    (l = [] ∧ l.headD 0 = 0) ∨ (l.headD 0 ∈ l ∧ ∀ x ∈ l, l.headD 0 ≤ x) := by
  cases l with
  | nil => exact .inl ⟨rfl, rfl⟩
  | cons a rest => exact .inr ⟨List.mem_cons_self, List.forall_mem_cons.mpr ⟨le_rfl, (List.pairwise_cons.mp h).1⟩⟩

/-- LEFTWARD takes the smallest stop above the offset, or 0 where there is none. -/
theorem Lane.nextStop_leftward (hdirection : k.settings.direction = .leftward) :
    (k.nextStop advance p ∈ k.stops advance ∧ p < k.nextStop advance p ∧
        ∀ x ∈ k.stops advance, p < x → k.nextStop advance p ≤ x) ∨
      (k.nextStop advance p = 0 ∧ ∀ x ∈ k.stops advance, x ≤ p) := by
  have hnext : k.nextStop advance p = ((k.stops advance).filter (p < ·)).headD 0 := by
    simp only [Lane.nextStop, hdirection]
  rw [hnext]
  rcases headD_spec ((k.stops_pairwise advance).filter (p < ·)) with ⟨hempty, hzero⟩ | ⟨hmem, hleast⟩
  · exact .inr ⟨hzero, fun x hx => by simpa using List.filter_eq_nil_iff.mp hempty x hx⟩
  · obtain ⟨hstop, habove⟩ := List.mem_filter.mp hmem
    exact .inl ⟨hstop, of_decide_eq_true habove, fun x hx hp => hleast x (List.mem_filter.mpr ⟨hx, decide_eq_true hp⟩)⟩

/-- RIGHTWARD takes the greatest stop below the offset. -/
theorem Lane.nextStop_rightward (hcycle : 0 < k.cycle advance) (hdirection : k.settings.direction = .rightward)
    (hp : 0 < p) :
    k.nextStop advance p ∈ k.stops advance ∧ k.nextStop advance p < p ∧
      ∀ x ∈ k.stops advance, x < p → x ≤ k.nextStop advance p := by
  have hnext : k.nextStop advance p = greatest ((k.stops advance).filter (· < p)) := by
    simp only [Lane.nextStop, hdirection, hp.ne', if_false]
  obtain ⟨hbound, hmem⟩ := greatest_spec ((k.stops advance).filter (· < p))
  rw [hnext]
  have hbelow : ∀ x ∈ k.stops advance, x < p → x ≤ greatest ((k.stops advance).filter (· < p)) :=
    fun x hx hxp => hbound x (List.mem_filter.mpr ⟨hx, decide_eq_true hxp⟩)
  rcases hmem with hzero | hmem
  · rw [hzero] at hbelow ⊢
    exact ⟨k.zero_mem_stops advance hcycle, hp, hbelow⟩
  · obtain ⟨hstop, hlt⟩ := List.mem_filter.mp hmem
    exact ⟨hstop, of_decide_eq_true hlt, hbelow⟩

/-- RIGHTWARD goes from 0 to the greatest stop. -/
theorem Lane.nextStop_rightward_zero (hcycle : 0 < k.cycle advance) (hdirection : k.settings.direction = .rightward) :
    k.nextStop advance 0 ∈ k.stops advance ∧ ∀ x ∈ k.stops advance, x ≤ k.nextStop advance 0 := by
  have hnext : k.nextStop advance 0 = greatest (k.stops advance) := by
    simp only [Lane.nextStop, hdirection, if_true]
  obtain ⟨hbound, hmem⟩ := greatest_spec (k.stops advance)
  rw [hnext]
  exact ⟨hmem.elim (fun hzero => hzero ▸ k.zero_mem_stops advance hcycle) id, hbound⟩

theorem Lane.nextStop_mem (hcycle : 0 < k.cycle advance) : k.nextStop advance p ∈ k.stops advance := by
  cases hdirection : k.settings.direction with
  | leftward =>
    rcases k.nextStop_leftward advance p hdirection with ⟨hmem, -, -⟩ | ⟨hzero, -⟩
    · exact hmem
    · exact hzero ▸ k.zero_mem_stops advance hcycle
  | rightward =>
    rcases Nat.eq_zero_or_pos p with rfl | hp
    · exact (k.nextStop_rightward_zero advance hcycle hdirection).1
    · exact (k.nextStop_rightward advance p hcycle hdirection hp).1

end

/-! ### One lane's step or jump (R57, R58) -/

theorem State.moves_iff {s : State} {k : Lane} : s.moves k = true ↔
    k.state = .set ∧ k.motion = .moving ∧ k.settings.mode ≠ .fixed ∧ 0 < s.cycleOf k := by
  simp [State.moves, and_assoc]

theorem State.modLane_congr (s : State) (l : LaneId) {f g : Lane → Lane} (h : f (s.laneAt l) = g (s.laneAt l)) :
    s.modLane l f = s.modLane l g := by
  rw [State.modLane, State.modLane, h]

/-- A lane's arrival, with the countdown its mode loads. -/
theorem State.arrive_eq (s : State) (l : LaneId) (offset : Nat) {loaded : Nat}
    (h : (s.laneAt l).loadedCountdown = loaded) :
    s.arrive l offset =
      if offset = 0 then (s.modLane l fun k => { k with countdown := loaded, offset := offset }).completePass l
      else s.modLane l fun k => { k with countdown := loaded, offset := offset } := by
  have hmoved : (s.modLane l fun k => { k with countdown := k.loadedCountdown, offset := offset }) =
      s.modLane l fun k => { k with countdown := loaded, offset := offset } := s.modLane_congr l (by rw [h])
  simp only [State.arrive, hmoved]

theorem exec_marqueeStep {s : State} {l : LaneId} (hdue : s.due l = true)
    (hmode : (s.laneAt l).settings.mode = .marquee) : exec (.marqueeStep l) s = .next (s.marqueeStep l) :=
  congrArg Host.Outcome.next (if_pos ⟨hdue, hmode⟩)

theorem exec_stepJump {s : State} {l : LaneId} (hdue : s.due l = true)
    (hmode : (s.laneAt l).settings.mode = .step) : exec (.stepJump l) s = .next (s.stepJump l) :=
  congrArg Host.Outcome.next (if_pos ⟨hdue, hmode⟩)

theorem Lane.steppedOffset_eq (k : Lane) (cycle : Nat) : k.steppedOffset cycle =
    if k.settings.direction = .leftward then (k.offset + 1) % cycle else (k.offset + cycle - 1) % cycle := by
  cases hdirection : k.settings.direction <;> simp [Lane.steppedOffset, hdirection]

/-- Settles O26: a due lane arrives where its mode takes it; the stops and the next of them by direction. -/
theorem stepsAndJumpsMoveOneLane : Obligations.StepsAndJumpsMoveOneLane := by
  refine ⟨fun s l => ?_, fun k advance p hcycle => ?_⟩
  · intro k hset hmoving hcycle hcountdown moved step jump
    have hdue (hmode : k.settings.mode ≠ .fixed) : s.due l = true := by
      simp only [State.due, Bool.and_eq_true, beq_iff_eq]
      exact ⟨State.moves_iff.mpr ⟨hset, hmoving, hmode, hcycle⟩, hcountdown⟩
    have hmarquee (hmode : k.settings.mode = .marquee) :
        exec (.marqueeStep l) s = .next (s.arrive l step) := by
      rw [exec_marqueeStep (hdue (by simp [hmode])) hmode, State.marqueeStep, Lane.steppedOffset_eq]
    have hstep (hmode : k.settings.mode = .step) : exec (.stepJump l) s = .next (s.arrive l jump) :=
      exec_stepJump (hdue (by simp [hmode])) hmode
    have hinterval (hmode : k.settings.mode = .marquee) : k.loadedCountdown = k.settings.interval := by
      simp [Lane.loadedCountdown, hmode]
    have hhold (hmode : k.settings.mode = .step) : k.loadedCountdown = k.settings.hold := by
      simp [Lane.loadedCountdown, hmode]
    refine ⟨fun hmode hne => ?_, fun hmode hzero => ?_, fun hmode hne => ?_, fun hmode hzero => ?_⟩
    · rw [hmarquee hmode, State.arrive_eq s l step (hinterval hmode), if_neg hne]
    · rw [hmarquee hmode, State.arrive_eq s l step (hinterval hmode), if_pos hzero, hzero]
    · rw [hstep hmode, State.arrive_eq s l jump (hhold hmode), if_neg hne]
    · rw [hstep hmode, State.arrive_eq s l jump (hhold hmode), if_pos hzero, hzero]
  · refine ⟨k.mem_stops advance, k.nextStop_mem advance p hcycle, fun hdirection hsome => ?_, fun hdirection hnone => ?_,
      fun hdirection hp => (k.nextStop_rightward advance p hcycle hdirection hp).2, fun hdirection hp => ?_⟩
    · rcases k.nextStop_leftward advance p hdirection with ⟨-, hnext⟩ | ⟨-, hnone⟩
      · exact hnext
      · obtain ⟨x, hx, hpx⟩ := hsome
        exact absurd (hnone x hx) (Nat.not_le.mpr hpx)
    · rcases k.nextStop_leftward advance p hdirection with ⟨hmem, hlt, -⟩ | ⟨hzero, -⟩
      · exact absurd (hnone _ hmem) (Nat.not_le.mpr hlt)
      · exact hzero
    · rw [hp]
      exact (k.nextStop_rightward_zero advance hcycle hdirection).2

end Sys2Proof.Machine
end


section
/-! PROOFS. Completed passes and whole frame starts at the Lane Unit (R56 to R62, R83, R164). Reports take pending
event records away, so a lane is followed apart from its record. -/

namespace Sys2Proof.Machine

/-! ### A lane apart from its pending event record -/

/-- The lane without its pending event record. -/
def Lane.body (k : Lane) : Lane := { k with record := Option.none }

theorem Lane.body_eq_iff {k k' : Lane} : k'.body = k.body ↔ { k' with record := k.record } = k := by
  cases k; cases k'; simp [Lane.body]

theorem Lane.passed_of_done {k : Lane} (h : k.isDonePass = true) :
    k.passed = { k with motion := .still, countdown := 0, offset := 0, passCount := min 65535 (k.passCount + 1) } := by
  simp [Lane.passed, h]

theorem Lane.passed_of_not_done {k : Lane} (h : ¬k.isDonePass = true) :
    k.passed = { k with passCount := min 65535 (k.passCount + 1) } := by
  simp [Lane.passed, h]

theorem Lane.body_passed (k : Lane) : k.passed.body = k.body.passed := by
  by_cases h : k.isDonePass = true
  · rw [Lane.passed_of_done h, Lane.passed_of_done (k := k.body) h]
    rfl
  · rw [Lane.passed_of_not_done h, Lane.passed_of_not_done (k := k.body) h]
    rfl

/-- Two states have the same lanes apart from the records, the same work in the Lane Unit, and the same frame starts
on their way to it. -/
structure State.SameLanes (s t : State) : Prop where
  body : ∀ m, (t.laneAt m).body = (s.laneAt m).body
  unit : t.lane = { s.lane with lanes := t.lane.lanes }
  notices : t.transit.laneFrames = s.transit.laneFrames

section

variable {s t u : State}

theorem State.SameLanes.refl (s : State) : s.SameLanes s := ⟨fun _ => rfl, rfl, rfl⟩

theorem State.SameLanes.trans (h : s.SameLanes t) (h' : t.SameLanes u) : s.SameLanes u :=
  ⟨fun m => (h'.body m).trans (h.body m), by rw [h'.unit, h.unit], h'.notices.trans h.notices⟩

/-- What changes a pending event record alone. -/
theorem State.SameLanes.modRecord (s : State) (l : LaneId) (f : Lane → Option EventRecord) :
    s.SameLanes (s.modLane l fun k => { k with record := f k }) := by
  refine ⟨fun m => ?_, rfl, rfl⟩
  rw [State.modLane_laneAt]
  split
  · next h => rw [h]; rfl
  · rfl

theorem State.startReportWrite_sameLanes (s : State) : s.SameLanes s.startReportWrite :=
  ⟨fun m => by simp, by simp, by simp⟩

theorem State.grant_sameLanes (h : s.grant = some t) : s.SameLanes t := by
  obtain ⟨-, -, ⟨r, -, rfl⟩ | ⟨l, -, rfl⟩⟩ := State.grant_cases h
  · refine ⟨fun m => by simp, by simp, ?_⟩
    unfold State.grantRing
    dsimp only
    split <;> simp
  · unfold State.grantLane
    dsimp only
    split
    · exact .trans (t := (s.withReport { s.report with turn := .ring }).takeReport _)
        ⟨fun _ => rfl, rfl, rfl⟩ (.modRecord _ l fun _ => none)
    · exact ⟨fun _ => rfl, rfl, rfl⟩

theorem State.grants_sameLanes (n : Nat) (s : State) : s.SameLanes (State.grants n s) := by
  induction n generalizing s with
  | zero => exact .refl s
  | succ n ih =>
    unfold State.grants
    split
    · rename_i t ht
      exact (State.grant_sameLanes ht).trans ((State.startReportWrite_sameLanes t).trans (ih _))
    · exact .refl s

theorem State.serveReports_sameLanes (s : State) : s.SameLanes s.serveReports :=
  (State.startReportWrite_sameLanes s).trans (State.grants_sameLanes _ _)

theorem State.sendSignal_sameLanes (s : State) (k : Lane) : s.SameLanes (s.sendSignal k) := by
  unfold State.sendSignal
  split <;> exact ⟨fun _ => rfl, rfl, rfl⟩

theorem State.offerLaneEvent_sameLanes (s : State) (l : LaneId) (isDone : Bool) :
    s.SameLanes (s.offerLaneEvent l isDone) := by
  unfold State.offerLaneEvent
  split
  · refine State.SameLanes.trans ?_ (State.serveReports_sameLanes _)
    exact ⟨fun _ => rfl, rfl, rfl⟩
  · exact (State.SameLanes.modRecord s l fun _ => some ⟨1, isDone⟩).trans (State.serveReports_sameLanes _)

theorem State.laneEvent_sameLanes (s : State) (l : LaneId) (isDone : Bool) : s.SameLanes (s.laneEvent l isDone) := by
  unfold State.laneEvent
  split
  · exact (State.sendSignal_sameLanes s _).trans (.modRecord _ l fun _ => _)
  · exact (State.sendSignal_sameLanes s _).trans (State.offerLaneEvent_sameLanes _ l isDone)

theorem State.completePass_sameLanes (s : State) (l : LaneId) :
    (s.modLane l Lane.passed).SameLanes (s.completePass l) := by
  unfold State.completePass
  dsimp only
  split
  · exact State.laneEvent_sameLanes _ l _
  · exact .refl _

/-! ### A completed pass (R60 to R62, R164) -/

theorem Lane.isDonePass_iff {k : Lane} : k.isDonePass = true ↔
    0 < k.settings.repeats ∧ min 65535 (k.passCount + 1) = k.settings.repeats := by
  simp [Lane.isDonePass]

theorem EventSetting.asks_iff (events : EventSetting) (isDone : Bool) :
    events.asks isDone = true ↔ events = .eachPass ∨ (events = .done ∧ isDone = true) := by
  cases events <;> simp [EventSetting.asks]

theorem Lane.passed_record (k : Lane) : k.passed.record = k.record := by
  unfold Lane.passed
  split <;> rfl

theorem Lane.passed_passCount (k : Lane) : k.passed.passCount = min 65535 (k.passCount + 1) := by
  unfold Lane.passed
  split <;> rfl

theorem Lane.passed_settings (k : Lane) : k.passed.settings = k.settings := by
  unfold Lane.passed
  split <;> rfl

theorem State.modLane_modLane (s : State) (l : LaneId) (f g : Lane → Lane) :
    (s.modLane l f).modLane l g = s.modLane l fun k => g (f k) := by
  simp [State.modLane, State.laneAt]

/-- A part that is not RUNNING takes no report and starts no write (R162, R167). -/
theorem State.serveReports_of_not_running (h : s.part ≠ .running) : s.serveReports = s := by
  have hstart : s.startReportWrite = s := by
    unfold State.startReportWrite
    split
    · rfl
    · simp [State.isRunning_of_not_running h]
  have hgrant : s.grant = none := by simp [State.grant, State.isRunning_of_not_running h]
  rw [State.serveReports, hstart, Nat.add_succ, State.grants, hgrant]

/-- With a full buffer and a write in flight nothing is taken and no write starts (R165, R167). -/
theorem State.serveReports_of_full (hroom : s.report.hasRoom = false) (hwrite : s.report.write ≠ none) :
    s.serveReports = s := by
  have hstart : s.startReportWrite = s := by
    unfold State.startReportWrite
    split
    · rfl
    · simp [hwrite]
  have hgrant : s.grant = none := by simp [State.grant, hroom]
  rw [State.serveReports, hstart, Nat.add_succ, State.grants, hgrant]

theorem State.laneClassHead_eq_none_iff : s.laneClassHead = none ↔ ∀ m, (s.laneAt m).record = none := by
  simp [State.laneClassHead, lowest_eq_none_iff, State.laneAt]

/-- With both classes empty only a write may start (R165, R167). -/
theorem State.serveReports_of_classes_empty (hrings : s.report.ringClass = [])
    (hlanes : ∀ m, (s.laneAt m).record = none) : s.serveReports = s.startReportWrite := by
  have hrings' : s.startReportWrite.report.ringClass = [] := by
    unfold State.startReportWrite
    split
    · exact hrings
    · split <;> exact hrings
  have hhead : s.startReportWrite.laneClassHead = none := State.laneClassHead_eq_none_iff.mpr (by simpa using hlanes)
  have hgrant : s.startReportWrite.grant = none := by simp [State.grant, hrings', hhead]
  rw [State.serveReports, Nat.add_succ, State.grants, hgrant]

/-- A write that starts takes the head of the buffer (R167). -/
theorem State.startReportWrite_entries (s : State) :
    s.startReportWrite.report.write.toList ++ s.startReportWrite.report.buffer =
      s.report.write.toList ++ s.report.buffer := by
  unfold State.startReportWrite
  split
  · rfl
  · next e rest hbuffer =>
    split
    · next h =>
      have hnone : s.report.write = none := by simp_all
      simp [hnone, hbuffer]
    · rfl

theorem State.grants_laneAdditions (n : Nat) (s : State) :
    (State.grants n s).transit.laneAdditions = s.transit.laneAdditions := by
  induction n generalizing s with
  | zero => rfl
  | succ n ih =>
    unfold State.grants
    split
    · rename_i t ht
      have hstart : t.startReportWrite.transit = t.transit := by simp
      rw [ih, hstart]
      obtain ⟨-, -, ⟨r, -, rfl⟩ | ⟨l, -, rfl⟩⟩ := State.grant_cases ht
      · unfold State.grantRing
        dsimp only
        split <;> simp
      · simp
    · rfl

theorem State.serveReports_laneAdditions (s : State) :
    s.serveReports.transit.laneAdditions = s.transit.laneAdditions := by
  simp [State.serveReports, State.grants_laneAdditions]

theorem State.sendSignal_eq (s : State) (k : Lane) : s.sendSignal k =
    s.withTransit { s.transit with laneAdditions := s.transit.laneAdditions ++ k.settings.signal.toList } := by
  cases hsignal : k.settings.signal with
  | none => simp [State.sendSignal, hsignal]
  | some c => simp [State.sendSignal, hsignal]

end

/-! ### The cases of a completed pass -/

/-- The lane after its pass, and the addition sent, before the event is taken, merged or recorded (R61, step 1). -/
def State.passSent (s : State) (l : LaneId) : State := (s.modLane l Lane.passed).sendSignal (s.laneAt l).passed

section

variable {s : State} {l : LaneId}

theorem State.passSent_eq (s : State) (l : LaneId) : s.passSent l =
    (s.withTransit { s.transit with
      laneAdditions := s.transit.laneAdditions ++ (s.laneAt l).settings.signal.toList }).modLane l Lane.passed := by
  rw [State.passSent, State.sendSignal_eq, Lane.passed_settings]
  rfl

@[simp] theorem State.passSent_report (s : State) (l : LaneId) : (s.passSent l).report = s.report := by
  rw [State.passSent_eq]
  rfl

@[simp] theorem State.passSent_part (s : State) (l : LaneId) : (s.passSent l).part = s.part := by
  rw [State.passSent_eq]
  rfl

theorem State.passSent_record (s : State) (l m : LaneId) : ((s.passSent l).laneAt m).record = (s.laneAt m).record := by
  rw [State.passSent_eq, State.modLane_laneAt]
  split
  · next h => rw [h]; exact Lane.passed_record _
  · rfl

theorem State.completePass_of_no_event (h : ¬(s.laneAt l).settings.events.asks (s.laneAt l).isDonePass = true) :
    s.completePass l = s.modLane l Lane.passed := if_neg h

theorem State.completePass_of_event (h : (s.laneAt l).settings.events.asks (s.laneAt l).isDonePass = true) :
    s.completePass l = (s.modLane l Lane.passed).laneEvent l (s.laneAt l).isDonePass := if_pos h

theorem State.completePass_of_record {rec : EventRecord}
    (h : (s.laneAt l).settings.events.asks (s.laneAt l).isDonePass = true) (hrec : (s.laneAt l).record = some rec) :
    s.completePass l =
      (s.passSent l).modLane l fun k => { k with record := some (rec.merge (s.laneAt l).isDonePass) } := by
  rw [State.completePass_of_event h]
  simp only [State.laneEvent, State.modLane_laneAt_self, Lane.passed_record, hrec]
  rfl

theorem State.completePass_of_offer (h : (s.laneAt l).settings.events.asks (s.laneAt l).isDonePass = true)
    (hrec : (s.laneAt l).record = none) :
    s.completePass l = (s.passSent l).offerLaneEvent l (s.laneAt l).isDonePass := by
  rw [State.completePass_of_event h]
  simp only [State.laneEvent, State.modLane_laneAt_self, Lane.passed_record, hrec]
  rfl

theorem State.takesLaneEvent_iff {t : State} : t.takesLaneEvent = true ↔
    t.part = .running ∧ t.report.buffer.length < 8 ∧ t.report.ringClass = [] ∧ ∀ m, (t.laneAt m).record = none := by
  have hlimit : Config.reportBufferSize = 8 := rfl
  simp [State.takesLaneEvent, State.isRunning_eq_true_iff, ReportUnit.hasRoom, hlimit,
    State.laneClassHead_eq_none_iff, and_assoc]

theorem State.takesLaneEvent_passSent : (s.passSent l).takesLaneEvent = true ↔
    s.part = .running ∧ s.report.buffer.length < 8 ∧ s.report.ringClass = [] ∧ ∀ m, (s.laneAt m).record = none := by
  simp only [State.takesLaneEvent_iff, State.passSent_part, State.passSent_report, State.passSent_record]

theorem State.offerLaneEvent_of_taken {t : State} {isDone : Bool} (h : t.takesLaneEvent = true) :
    t.offerLaneEvent l isDone =
      ((t.takeReport (laneReportEntry l isDone 1 (t.laneAt l).passCount)).withReport
        { (t.takeReport (laneReportEntry l isDone 1 (t.laneAt l).passCount)).report with
          turn := .ring }).serveReports := if_pos h

theorem State.offerLaneEvent_of_refused {t : State} {isDone : Bool} (h : ¬t.takesLaneEvent = true) :
    t.offerLaneEvent l isDone = (t.modLane l fun k => { k with record := some ⟨1, isDone⟩ }).serveReports := if_neg h

end

/-! ### O27 -/

section

variable {s : State} {l : LaneId}

/-- The lane of a completed pass, apart from its record. -/
theorem State.completePass_body (s : State) (l : LaneId) : { (s.completePass l).laneAt l with
    record := (s.laneAt l).record } = (s.laneAt l).passed := by
  have h := (State.completePass_sameLanes s l).body l
  rw [State.modLane_laneAt_self, Lane.body_eq_iff, Lane.passed_record] at h
  exact h

/-- The lane addition of a pass that makes an event is sent whatever becomes of the event (R61, step 1). -/
theorem State.completePass_laneAdditions (h : (s.laneAt l).settings.events.asks (s.laneAt l).isDonePass = true) :
    (s.completePass l).transit.laneAdditions =
      s.transit.laneAdditions ++ (s.laneAt l).settings.signal.toList := by
  have hsent : (s.passSent l).transit.laneAdditions =
      s.transit.laneAdditions ++ (s.laneAt l).settings.signal.toList := by
    rw [State.passSent_eq]
    rfl
  cases hrec : (s.laneAt l).record with
  | some rec => rw [State.completePass_of_record h hrec, State.modLane_transit, hsent]
  | none =>
    rw [State.completePass_of_offer h hrec, State.offerLaneEvent]
    split
    · rw [State.serveReports_laneAdditions]
      exact hsent
    · rw [State.serveReports_laneAdditions]
      exact hsent

/-- An event that the Report Unit takes at once is the last entry taken, and leaves no record (R164). -/
theorem State.completePass_of_taken (h : (s.laneAt l).settings.events.asks (s.laneAt l).isDonePass = true)
    (htakes : (s.passSent l).takesLaneEvent = true) :
    ((s.completePass l).laneAt l).record = none ∧
      (s.completePass l).report.write.toList ++ (s.completePass l).report.buffer =
        s.report.write.toList ++ s.report.buffer ++
          [{ laneReportEntry l (s.laneAt l).isDonePass 1 (min 65535 ((s.laneAt l).passCount + 1)) with
            lap := s.report.nextLap, frame := s.frameNumber }] := by
  obtain ⟨-, -, hrings, hlanes⟩ := State.takesLaneEvent_passSent.mp htakes
  have hcount : ((s.passSent l).laneAt l).passCount = min 65535 ((s.laneAt l).passCount + 1) := by
    rw [State.passSent_eq, State.modLane_laneAt_self]
    exact Lane.passed_passCount _
  have hframe : (s.passSent l).frameNumber = s.frameNumber := by
    rw [State.passSent_eq]
    rfl
  rw [State.completePass_of_offer h (hlanes l), State.offerLaneEvent_of_taken htakes,
    State.serveReports_of_classes_empty]
  · constructor
    · simpa [State.passSent_record] using hlanes l
    · rw [State.startReportWrite_entries]
      simp [State.takeReport, hcount, hframe]
  · simpa [State.takeReport] using hrings
  · simpa [State.passSent_record] using hlanes

/-- An event that is not taken makes the lane's record, and the reports are then served (R62, R164). -/
theorem State.completePass_of_refused (h : (s.laneAt l).settings.events.asks (s.laneAt l).isDonePass = true)
    (hrec : (s.laneAt l).record = none) (htakes : ¬(s.passSent l).takesLaneEvent = true) :
    s.completePass l = ((s.withTransit { s.transit with
      laneAdditions := s.transit.laneAdditions ++ (s.laneAt l).settings.signal.toList }).modLane l fun k =>
        { k.passed with record := some ⟨1, k.isDonePass⟩ }).serveReports := by
  rw [State.completePass_of_offer h hrec, State.offerLaneEvent_of_refused htakes, State.passSent_eq, State.modLane_modLane]
  exact congrArg State.serveReports (State.modLane_congr _ l rfl)

end

/-- Settles O27: whether the pass is the done pass, and the event's three ways. -/
theorem completedPassesMakeLaneEvents : Obligations.CompletedPassesMakeLaneEvents := by
  intro s l k t passes isDone event
  have hdone : k.isDonePass = true ↔ isDone := Lane.isDonePass_iff
  have hdecide : decide isDone = k.isDonePass := by rw [Bool.eq_iff_iff, decide_eq_true_iff, hdone]
  have hevent : k.settings.events.asks k.isDonePass = true ↔ event := by
    rw [EventSetting.asks_iff, hdone]
  refine ⟨fun h => ?_, fun h => ?_, fun h => ?_, fun h => ?_, fun rec h hrec => ?_, fun h hrec hpart => ?_,
    fun h hpart hroom hrings hlanes => ?_, fun h hrec hpart hwaits => ?_, fun h hrec hpart hfull hwrite => ?_⟩
  · rw [State.completePass_body, Lane.passed_of_done (hdone.mpr h)]
  · rw [State.completePass_body, Lane.passed_of_not_done (mt hdone.mp h)]
  · have ht : t = s.modLane l Lane.passed := State.completePass_of_no_event (mt hevent.mp h)
    rw [ht, State.modLane_laneAt_self]
    exact ⟨rfl, rfl, Lane.passed_record k⟩
  · exact State.completePass_laneAdditions (hevent.mpr h)
  · have ht : t = _ := State.completePass_of_record (hevent.mpr h) hrec
    rw [ht, hdecide, State.modLane_laneAt_self]
    exact ⟨State.passSent_report s l, rfl⟩
  · have ht : t = _ := State.completePass_of_refused (hevent.mpr h) hrec
      fun htakes => hpart (State.takesLaneEvent_passSent.mp htakes).1
    rw [ht, hdecide, State.serveReports_of_not_running (by simpa using hpart), State.modLane_laneAt_self]
    exact ⟨rfl, rfl⟩
  · obtain ⟨hrecord, hentries⟩ := State.completePass_of_taken (hevent.mpr h)
      (State.takesLaneEvent_passSent.mpr ⟨hpart, hroom, hrings, hlanes⟩)
    refine ⟨hrecord, hentries.trans ?_⟩
    simp only [laneReportEntry, ← hdone]
    rfl
  · have ht : t = _ := State.completePass_of_refused (hevent.mpr h) hrec fun htakes => by
      obtain ⟨-, hroom, hrings, hlanes⟩ := State.takesLaneEvent_passSent.mp htakes
      rcases hwaits with hfull | hring | ⟨m, hm⟩
      · exact absurd hroom (Nat.not_lt.mpr hfull)
      · exact hring hrings
      · exact hm (hlanes m)
    rw [ht]
    refine congrArg State.serveReports (State.modLane_congr _ l ?_)
    by_cases h' : isDone
    · have hpass := hdone.mpr h'
      simp only [h', if_true]
      exact (by rw [Lane.passed_of_done hpass, hpass] :
        { k.passed with record := some ⟨1, k.isDonePass⟩ } = { k with
          motion := .still, countdown := 0, offset := 0, passCount := passes, record := some ⟨1, true⟩ })
    · have hpass := mt hdone.mp h'
      simp only [h', if_false]
      exact (by rw [Lane.passed_of_not_done hpass, Bool.eq_false_of_not_eq_true hpass] :
        { k.passed with record := some ⟨1, k.isDonePass⟩ } = { k with
          passCount := passes, record := some ⟨1, false⟩ })
  · have hroom : s.report.hasRoom = false := decide_eq_false (by simp [hfull]; decide)
    have ht : t = _ := State.completePass_of_refused (hevent.mpr h) hrec
      fun htakes => by simpa [hfull] using (State.takesLaneEvent_passSent.mp htakes).2.1
    rw [ht, hdecide, State.serveReports_of_full (by exact hroom) (by exact hwrite), State.modLane_laneAt_self]
    exact ⟨rfl, rfl⟩

end Sys2Proof.Machine
end


section
/-! PROOFS. The lanes of a whole frame start (R56 to R60, R83): what one frame start makes of each lane apart from its
pending event record. -/

namespace Sys2Proof.Machine

/-! ### One lane at a frame start -/

/-- A lane that has arrived at an offset: its countdown reloaded, and a pass completed where that is 0 (R57, R58). -/
def Lane.arrived (k : Lane) (offset : Nat) : Lane :=
  if offset = 0 then Lane.passed { k with countdown := k.loadedCountdown, offset := offset }
  else { k with countdown := k.loadedCountdown, offset := offset }

/-- Where the next step or jump of a lane takes it (R57, R58). -/
def Lane.nextPlace (k : Lane) (advance : Nat) : Nat :=
  if k.settings.mode = .step then k.nextStop advance k.offset
  else if k.settings.direction = .leftward then (k.offset + 1) % k.cycle advance
  else (k.offset + k.cycle advance - 1) % k.cycle advance

/-- A lane after a frame start (R56 to R59). -/
def Lane.framed (k : Lane) (advance : Nat) : Lane :=
  if k.state = .set ∧ k.motion = .moving ∧ k.settings.mode ≠ .fixed ∧ 0 < k.cycle advance then
    if 1 < k.countdown then { k with countdown := k.countdown - 1 } else k.arrived (k.nextPlace advance)
  else k

theorem Lane.body_arrived (k : Lane) (offset : Nat) : (k.arrived offset).body = k.body.arrived offset := by
  unfold Lane.arrived
  split
  · exact Lane.body_passed _
  · rfl

theorem Lane.body_framed (k : Lane) (advance : Nat) : (k.framed advance).body = k.body.framed advance := by
  by_cases hmoves : k.state = .set ∧ k.motion = .moving ∧ k.settings.mode ≠ .fixed ∧ 0 < k.cycle advance
  · by_cases hcountdown : 1 < k.countdown
    · rw [Lane.framed, if_pos hmoves, if_pos hcountdown, Lane.framed, if_pos (by exact hmoves),
        if_pos (by exact hcountdown)]
      rfl
    · rw [Lane.framed, if_pos hmoves, if_neg hcountdown, Lane.framed, if_pos (by exact hmoves),
        if_neg (by exact hcountdown), Lane.body_arrived]
      rfl
  · rw [Lane.framed, if_neg hmoves, Lane.framed, if_neg (by exact hmoves)]

theorem Lane.framed_record (k : Lane) (advance : Nat) : (k.framed advance).record = k.record := by
  unfold Lane.framed
  split
  · split
    · rfl
    · unfold Lane.arrived
      split
      · exact Lane.passed_record _
      · rfl
  · rfl

theorem State.arrive_sameLanes (s : State) (l : LaneId) (offset : Nat) :
    (s.modLane l fun k => k.arrived offset).SameLanes (s.arrive l offset) := by
  unfold State.arrive Lane.arrived
  dsimp only
  by_cases h : offset = 0
  · simp only [h, if_true]
    rw [← State.modLane_modLane s l (fun k => { k with countdown := k.loadedCountdown, offset := 0 }) Lane.passed]
    exact State.completePass_sameLanes _ l
  · simp only [h, if_false]
    exact .refl _

/-- A lane that comes due arrives at its next place. -/
theorem State.stepLane_of_due {s : State} {l : LaneId} (hdue : s.due l = true) :
    s.stepLane l = s.arrive l ((s.laneAt l).nextPlace (s.advanceOf (s.laneAt l))) := by
  have hmode : (s.laneAt l).settings.mode ≠ .fixed :=
    (State.moves_iff.mp (Bool.and_eq_true_iff.mp hdue).1).2.2.1
  rw [State.stepLane, if_pos hdue]
  cases hm : (s.laneAt l).settings.mode with
  | fixed => exact absurd hm hmode
  | marquee =>
    simp only [Lane.nextPlace, hm, reduceCtorEq, if_false]
    rw [State.marqueeStep, Lane.steppedOffset_eq]
    rfl
  | step =>
    simp only [Lane.nextPlace, hm, if_true]
    rfl

theorem State.moveLane_sameLanes (s : State) (l : LaneId) :
    (s.modLane l fun k => k.framed (s.advanceOf k)).SameLanes (s.moveLane l) := by
  by_cases hmoves : s.moves (s.laneAt l) = true
  · have hm := State.moves_iff.mp hmoves
    rw [State.moveLane, if_pos hmoves]
    have hdue : (s.modLane l fun k => { k with countdown := k.countdown - 1 }).due l = true ↔
        ¬1 < (s.laneAt l).countdown := by
      have hmoves' : (s.modLane l fun k => { k with countdown := k.countdown - 1 }).moves
          ((s.modLane l fun k => { k with countdown := k.countdown - 1 }).laneAt l) = true := by
        rw [State.modLane_laneAt_self]
        exact hmoves
      rw [State.due, hmoves', State.modLane_laneAt_self, Bool.true_and, beq_iff_eq]
      exact (by omega : (s.laneAt l).countdown - 1 = 0 ↔ ¬1 < (s.laneAt l).countdown)
    by_cases hcountdown : 1 < (s.laneAt l).countdown
    · rw [State.stepLane, if_neg fun h => hdue.mp h hcountdown,
        State.modLane_congr s l (g := fun k => { k with countdown := k.countdown - 1 })
          (by rw [Lane.framed, if_pos (by exact hm), if_pos hcountdown])]
      exact .refl _
    · rw [State.stepLane_of_due (hdue.mpr hcountdown), State.modLane_laneAt_self]
      refine State.SameLanes.trans ?_ (State.arrive_sameLanes _ l _)
      rw [State.modLane_modLane, State.modLane_congr s l
        (g := fun k => Lane.arrived { k with countdown := k.countdown - 1 } (k.nextPlace (s.advanceOf k)))]
      · exact .refl _
      · rw [Lane.framed, if_pos (by exact hm), if_neg hcountdown]
        rfl
  · have hm := mt State.moves_iff.mpr hmoves
    rw [State.moveLane, if_neg hmoves, State.modLane_congr s l (g := id) (by rw [Lane.framed, if_neg (by exact hm)]; rfl)]
    have hid : s.modLane l id = s := by simp [State.modLane, State.laneAt]
    rw [hid]
    exact .refl s

/-! ### All lanes at a frame start -/

theorem State.moveLanes_unit (l : List LaneId) (s : State) :
    (State.moveLanes l s).lane = { s.lane with lanes := (State.moveLanes l s).lane.lanes } ∧
      (State.moveLanes l s).transit.laneFrames = s.transit.laneFrames := by
  induction l generalizing s with
  | nil => exact ⟨rfl, rfl⟩
  | cons x rest ih =>
    obtain ⟨hlane, hnotices⟩ := ih (s.moveLane x)
    have hmoved := State.moveLane_sameLanes s x
    exact ⟨by rw [State.moveLanes, hlane, hmoved.unit]; rfl, hnotices.trans hmoved.notices⟩

/-- Each lane of a list, in which none occurs twice, is moved by its own record alone. -/
theorem State.moveLanes_body {l : List LaneId} (h : l.Nodup) (s : State) (m : LaneId) :
    ((State.moveLanes l s).laneAt m).body =
      if m ∈ l then ((s.laneAt m).framed (s.advanceOf (s.laneAt m))).body else (s.laneAt m).body := by
  induction l generalizing s with
  | nil => rfl
  | cons x rest ih =>
    obtain ⟨hx, hrest⟩ := List.nodup_cons.mp h
    have hmoved := (State.moveLane_sameLanes s x).body m
    have hglyph : (s.moveLane x).glyph = s.glyph := by simp
    rw [State.moveLanes, ih hrest]
    by_cases hmx : m = x
    · rw [hmx, State.modLane_laneAt_self] at hmoved
      rw [hmx, if_neg hx, if_pos List.mem_cons_self, hmoved]
    · rw [State.modLane_laneAt, if_neg hmx] at hmoved
      have hadvance : (s.moveLane x).advanceOf ((s.moveLane x).laneAt m) = s.advanceOf (s.laneAt m) := by
        have hsettings : ((s.moveLane x).laneAt m).settings = (s.laneAt m).settings := by
          have h := congrArg Lane.settings hmoved
          exact h
        simp only [State.advanceOf, hglyph, hsettings]
      rw [hadvance, Lane.body_framed, hmoved, ← Lane.body_framed]
      simp [hmx]

/-- The frame that begins shows the lanes as the frame start leaves them (R83). -/
theorem State.laneFrame_shows (s : State) (n : FrameNotice) :
    (s.laneFrame n).frame = some ((s.laneFrame n).snapshot n) := by
  unfold State.laneFrame
  generalize State.moveLanes [0, 1, 2, 3, 4, 5, 6, 7] s = t
  rfl

theorem State.laneFrame_lane (s : State) (n : FrameNotice) :
    (s.laneFrame n).lane = (State.moveLanes [0, 1, 2, 3, 4, 5, 6, 7] s).lane := by
  unfold State.laneFrame
  generalize State.moveLanes [0, 1, 2, 3, 4, 5, 6, 7] s = t
  rfl

theorem State.laneFrame_transit (s : State) (n : FrameNotice) :
    (s.laneFrame n).transit = (State.moveLanes [0, 1, 2, 3, 4, 5, 6, 7] s).transit := by
  unfold State.laneFrame
  generalize State.moveLanes [0, 1, 2, 3, 4, 5, 6, 7] s = t
  rfl

theorem mem_lanes : ∀ l : LaneId, l ∈ ([0, 1, 2, 3, 4, 5, 6, 7] : List LaneId) := by decide

theorem exec_laneFrameStart {s : State} {notice : FrameNotice} {later : List FrameNotice}
    (h : s.transit.laneFrames = notice :: later) :
    exec .laneFrameStart s = .next ((s.withTransit { s.transit with laneFrames := later }).laneFrame notice) := by
  have hexec : exec .laneFrameStart s = execLaneFrameStart s := rfl
  rw [hexec, execLaneFrameStart, h]

/-- What a frame start makes of each lane, apart from its pending event record. -/
theorem State.laneFrame_body (s : State) (n : FrameNotice) (l : LaneId) :
    { (s.laneFrame n).laneAt l with record := (s.laneAt l).record } =
      (s.laneAt l).framed (s.advanceOf (s.laneAt l)) := by
  have hbody := State.moveLanes_body (l := [0, 1, 2, 3, 4, 5, 6, 7]) (by decide) s l
  rw [if_pos (mem_lanes l), Lane.body_eq_iff, Lane.framed_record] at hbody
  simp only [State.laneAt, State.laneFrame_lane] at hbody ⊢
  exact hbody

/-- A frame start changes the Report Unit, the lane records, the messages and the frame alone. -/
theorem State.laneFrame_changes (s : State) (n : FrameNotice) :
    s.laneFrame n = (((s.withReport (s.laneFrame n).report).withLane
      { s.lane with lanes := (s.laneFrame n).lane.lanes }).withTransit (s.laneFrame n).transit).withFrame
        (s.laneFrame n).frame := by
  apply State.eq_of_fields <;> simp
  rw [State.laneFrame_lane, (State.moveLanes_unit _ s).1]

/-- Settles O25: every lane by `State.laneFrame_body`. -/
theorem laneFrameStartMovesEachLane : Obligations.LaneFrameStartMovesEachLane := by
  intro s notice later hnotice
  have hexec := exec_laneFrameStart hnotice
  have hbody := State.laneFrame_body (s.withTransit { s.transit with laneFrames := later }) notice
  have hshows := State.laneFrame_shows (s.withTransit { s.transit with laneFrames := later }) notice
  have hchanges := State.laneFrame_changes (s.withTransit { s.transit with laneFrames := later }) notice
  have hnotices : ((s.withTransit { s.transit with laneFrames := later }).laneFrame notice).transit.laneFrames = later := by
    rw [State.laneFrame_transit, (State.moveLanes_unit _ _).2]
    rfl
  generalize (s.withTransit { s.transit with laneFrames := later }).laneFrame notice = t at *
  refine ⟨t, hexec, fun l => ?_, hshows, hnotices, ?_⟩
  · intro k moved moves place loaded passes
    have hmoved : moved = k.framed (s.advanceOf k) := hbody l
    have harrives (hm : moves) (hcountdown : k.countdown ≤ 1) : moved = k.arrived place := by
      rw [hmoved, Lane.framed, if_pos (by exact hm), if_neg (Nat.not_lt.mpr hcountdown)]
      rfl
    have hloaded (hm : moves) : k.loadedCountdown = loaded := by
      obtain ⟨-, -, hmode, -⟩ := hm
      cases h : k.settings.mode with
      | fixed => exact absurd h hmode
      | marquee => simp [Lane.loadedCountdown, loaded, h]
      | step => simp [Lane.loadedCountdown, loaded, h]
    have harrived (hm : moves) (hcountdown : k.countdown ≤ 1) (hplace : place = 0) :
        moved = Lane.passed { k with countdown := loaded, offset := 0 } := by
      rw [harrives hm hcountdown, Lane.arrived, if_pos hplace, hloaded hm, hplace]
    refine ⟨fun hm => ?_, fun hm hcountdown => ?_, fun hm hcountdown hplace => ?_, fun hm hcountdown hplace hr hp => ?_,
      fun hm hcountdown hplace hnot => ?_⟩
    · rw [hmoved, Lane.framed, if_neg (by exact hm)]
    · rw [hmoved, Lane.framed, if_pos (by exact hm), if_pos hcountdown]
    · rw [harrives hm hcountdown, Lane.arrived, if_neg hplace, hloaded hm]
    · rw [harrived hm hcountdown hplace, Lane.passed_of_done (by exact Lane.isDonePass_iff.mpr ⟨hr, hp⟩)]
    · rw [harrived hm hcountdown hplace, Lane.passed_of_not_done (by exact mt Lane.isDonePass_iff.mp hnot)]
  · exact hchanges

end Sys2Proof.Machine
end


section
/-! PROOFS. SURFACE_SET and CLIP_SET (sections 5.4 and 5.5): the descriptor that fits its space, and the clip as the
intersection of the given rectangle with the surface. -/

namespace Sys2Proof.Machine

/-! ### Taking an entry of the Surface Table (R93, R105) -/

theorem State.takeSurfaceEntry_of_waits {s : State} {r : RingId} {e : WorkEntry} {kind : Kind}
    (hpart : s.part ≠ .resetting) (hwaits : s.waitsAt r e) (hkind : e.kind = some kind)
    (serve : WorkEntry → State → State) : s.takeSurfaceEntry r kind serve = serve e (s.clearHandover r) := by
  rw [State.takeSurfaceEntry, if_neg hpart, State.takeEntry_of_waits hwaits hkind rfl]

theorem exec_surfaceSet {s : State} {r : RingId} {e : WorkEntry} (hpart : s.part ≠ .resetting)
    (hwaits : s.waitsAt r e) (hkind : e.kind = some .surfaceSet) :
    exec (.surfaceSet r) s = .next ((s.clearHandover r).serveSurfaceSet r e) :=
  congrArg Host.Outcome.next (State.takeSurfaceEntry_of_waits hpart hwaits hkind _)

theorem exec_clipSet {s : State} {r : RingId} {e : WorkEntry} (hpart : s.part ≠ .resetting)
    (hwaits : s.waitsAt r e) (hkind : e.kind = some .clipSet) :
    exec (.clipSet r) s = .next ((s.clearHandover r).serveClipSet r e) :=
  congrArg Host.Outcome.next (State.takeSurfaceEntry_of_waits hpart hwaits hkind _)

theorem Surface.inUse_iff {k : Surface} : k.inUse = true ↔ k.hold ≠ .none ∨ k.mark = true := by
  simp [Surface.inUse]

/-- A surface record that is replaced in the handling that takes and answers the entry. -/
theorem State.setSurface_giveAnswer {s : State} {r : RingId} {e : WorkEntry} (hwaits : s.waitsAt r e) (n : SurfaceId)
    (k : Surface) (a : Answer) : ((s.clearHandover r).setSurface n k).giveAnswer r a =
      (s.withSurfaces (update s.surfaces n k)).answered r a :=
  State.giveAnswer_clearHandover (s := s.withSurfaces (update s.surfaces n k)) hwaits a

/-! ### SURFACE_SET (R94, R95) -/

/-- The descriptor of a SURFACE_SET fits a space whose last byte address is `last` (R94). -/
def SurfaceSetArgs.Fits (a : SurfaceSetArgs) (last : Nat) : Prop :=
  (1 ≤ a.width ∧ a.width ≤ 4096) ∧ (1 ≤ a.height ∧ a.height ≤ 4096) ∧
    (a.depth = 1 ∨ a.depth = 2 ∨ a.depth = 4 ∨ a.depth = 8) ∧ a.base.toNat % 4 = 0 ∧ a.pitch % 4 = 0 ∧
    (a.width * a.depth + 7) / 8 ≤ a.pitch ∧ a.pitch ≤ 65532 ∧
    a.base.toNat + (a.height - 1) * a.pitch + (a.width * a.depth + 7) / 8 - 1 ≤ last

theorem depthValid_iff {d : Nat} : depthValid d = true ↔ d = 1 ∨ d = 2 ∨ d = 4 ∨ d = 8 := by
  simp [depthValid, or_assoc]

theorem Space.lastByte_eq (space : Space) : space.lastByte = if space = .loc then 0xFFFFF else 0xFFFFFFFF := by
  cases space <;> rfl

theorem SurfaceSetArgs.validated_of_fits {a : SurfaceSetArgs} {n : SurfaceId} {space : Space} (hn : a.surface = n.1)
    (hspace : a.space = some space) (hfits : a.Fits space.lastByte) :
    a.validated = some (n, a.descriptor space) := by
  obtain ⟨hwidth, hheight, hdepth, hrest⟩ := hfits
  simp only [SurfaceSetArgs.validated, recordNumber_eq_some hn, hspace]
  exact if_pos ⟨hwidth, hheight, depthValid_iff.mpr hdepth, hrest⟩

theorem SurfaceSetArgs.validated_of_not_fits {a : SurfaceSetArgs} {n : SurfaceId} {space : Space}
    (hn : a.surface = n.1) (hspace : a.space = some space) (hfits : ¬a.Fits space.lastByte) : a.validated = none := by
  simp only [SurfaceSetArgs.validated, recordNumber_eq_some hn, hspace]
  refine if_neg fun ⟨hwidth, hheight, hdepth, hrest⟩ => hfits ⟨hwidth, hheight, depthValid_iff.mp hdepth, hrest⟩

theorem SurfaceSetArgs.validated_of_outside {a : SurfaceSetArgs} (h : 16 ≤ a.surface ∨ a.space = none) :
    a.validated = none := by
  rcases h with hn | hspace
  · rw [SurfaceSetArgs.validated, recordNumber_eq_none hn]
  · rw [SurfaceSetArgs.validated, hspace]
    cases recordNumber 16 a.surface <;> rfl

section

variable {s : State} {r : RingId} {e : WorkEntry}

theorem State.serveSurfaceSet_of_invalid (hwaits : s.waitsAt r e) (h : e.surfaceSetArgs.validated = none) :
    (s.clearHandover r).serveSurfaceSet r e = s.answered r (.failed .badOperand) := by
  rw [State.serveSurfaceSet, h]
  exact State.giveAnswer_clearHandover hwaits _

theorem State.serveSurfaceSet_of_used {n : SurfaceId} {k : Surface} (hwaits : s.waitsAt r e)
    (h : e.surfaceSetArgs.validated = some (n, k)) (hused : (s.surfaceAt n).inUse = true) :
    (s.clearHandover r).serveSurfaceSet r e = s.answered r (.failed .inUse) := by
  simp only [State.serveSurfaceSet, h]
  rw [if_pos (by exact hused)]
  exact State.giveAnswer_clearHandover hwaits _

theorem State.serveSurfaceSet_of_free {n : SurfaceId} {k : Surface} (hwaits : s.waitsAt r e)
    (h : e.surfaceSetArgs.validated = some (n, k)) (hused : ¬(s.surfaceAt n).inUse = true) :
    (s.clearHandover r).serveSurfaceSet r e = (s.withSurfaces (update s.surfaces n k)).answered r .done := by
  simp only [State.serveSurfaceSet, h]
  rw [if_neg (by exact hused)]
  exact State.setSurface_giveAnswer hwaits n k _

end

/-! ### CLIP_SET (R96) -/

theorem inDrawingRange_iff {c : Int} : inDrawingRange c = true ↔ -4096 ≤ c ∧ c ≤ 8191 := by simp [inDrawingRange]

theorem ClipSetArgs.valid_iff {a : ClipSetArgs} : a.valid = true ↔
    (-4096 ≤ a.x0 ∧ a.x0 ≤ 8191) ∧ (-4096 ≤ a.y0 ∧ a.y0 ≤ 8191) ∧ (-4096 ≤ a.x1 ∧ a.x1 ≤ 8191) ∧
      (-4096 ≤ a.y1 ∧ a.y1 ≤ 8191) ∧ a.x0 ≤ a.x1 ∧ a.y0 ≤ a.y1 := by
  simp [ClipSetArgs.valid, inDrawingRange_iff, and_assoc]

theorem ClipSetArgs.clip_eq (a : ClipSetArgs) (k : Surface) :
    a.clip k = if a.x1 < 0 ∨ a.y1 < 0 ∨ (k.width : Int) ≤ max a.x0 0 ∨ (k.height : Int) ≤ max a.y0 0 then none
      else some ⟨(max a.x0 0).toNat, (max a.y0 0).toNat, (min a.x1 (k.width - 1)).toNat,
        (min a.y1 (k.height - 1)).toNat⟩ := by
  simp only [ClipSetArgs.clip, Int.sub_one_lt_iff]

/-- The clip admits exactly the pixels of the surface that lie in the rectangle. -/
theorem ClipSetArgs.mem_clip (a : ClipSetArgs) (k : Surface) (x y : Nat) :
    (∃ c, a.clip k = some c ∧ (c.x0 ≤ x ∧ x ≤ c.x1) ∧ c.y0 ≤ y ∧ y ≤ c.y1) ↔
      (x < k.width ∧ y < k.height) ∧ (a.x0 ≤ x ∧ x ≤ a.x1) ∧ a.y0 ≤ y ∧ y ≤ a.y1 := by
  rw [ClipSetArgs.clip_eq]
  split
  · simp only [reduceCtorEq, false_and, exists_false, false_iff]
    omega
  · simp only [Option.some.injEq, exists_eq_left']
    omega

/-- The clip is EMPTY where no pixel of the surface lies in the rectangle. -/
theorem ClipSetArgs.clip_eq_none_iff {a : ClipSetArgs} (k : Surface) (hx : a.x0 ≤ a.x1) (hy : a.y0 ≤ a.y1) :
    a.clip k = none ↔ ∀ x y : Nat, ¬((x < k.width ∧ y < k.height) ∧ (a.x0 ≤ x ∧ x ≤ a.x1) ∧ a.y0 ≤ y ∧ y ≤ a.y1) := by
  constructor
  · intro hnone x y hinside
    obtain ⟨c, hc, -⟩ := (a.mem_clip k x y).mpr hinside
    exact absurd (hnone ▸ hc) nofun
  · intro houtside
    rw [ClipSetArgs.clip_eq]
    refine if_pos (Decidable.of_not_not fun hsome => houtside (max a.x0 0).toNat (max a.y0 0).toNat ?_)
    omega

section

variable {s : State} {r : RingId} {e : WorkEntry} {n : SurfaceId}

theorem State.serveClipSet_of_outside (hwaits : s.waitsAt r e) (h : 16 ≤ e.clipSetArgs.surface) :
    (s.clearHandover r).serveClipSet r e = s.answered r (.failed .badOperand) := by
  simp only [State.serveClipSet, recordNumber_eq_none h]
  exact State.giveAnswer_clearHandover hwaits _

/-- CLIP_SET on a surface that exists, with its checks in order. -/
theorem State.serveClipSet_of_surface (hwaits : s.waitsAt r e) (hn : e.clipSetArgs.surface = n.1) :
    (s.clearHandover r).serveClipSet r e =
      if !e.clipSetArgs.valid then s.answered r (.failed .badOperand)
      else if (s.surfaceAt n).state = .unset then s.answered r (.failed .notSet)
      else if (s.surfaceAt n).inUse then s.answered r (.failed .inUse)
      else (s.withSurfaces (update s.surfaces n { s.surfaceAt n with
        clip := e.clipSetArgs.clip (s.surfaceAt n) })).answered r .done := by
  simp only [State.serveClipSet, recordNumber_eq_some hn, State.giveAnswer_clearHandover hwaits,
    State.setSurface_giveAnswer hwaits]
  rfl

end

/-- Settles O47: the checks of each entry in order, and the clip by `ClipSetArgs.mem_clip`. -/
theorem surfaceEntriesSetASurface : Obligations.SurfaceEntriesSetASurface := by
  intro s r e hpart hwaits fails used
  refine ⟨fun hkind => ?_, fun hkind => ?_⟩
  · intro a rowBytes fits
    refine ⟨fun houtside => ?_, fun n space hn hspace => ?_⟩
    · exact (exec_surfaceSet hpart hwaits hkind).trans (congrArg _
        (State.serveSurfaceSet_of_invalid hwaits (SurfaceSetArgs.validated_of_outside houtside)))
    · intro last
      have hlast : space.lastByte = last := space.lastByte_eq
      have hvalid (hfits : fits last) : a.validated = some (n, a.descriptor space) :=
        SurfaceSetArgs.validated_of_fits hn hspace (hlast ▸ hfits)
      refine ⟨fun hfits => ?_, fun hfits hused => ?_, fun hfits hused => ?_⟩
      · exact (exec_surfaceSet hpart hwaits hkind).trans (congrArg _
          (State.serveSurfaceSet_of_invalid hwaits (SurfaceSetArgs.validated_of_not_fits hn hspace (hlast ▸ hfits))))
      · exact (exec_surfaceSet hpart hwaits hkind).trans (congrArg _
          (State.serveSurfaceSet_of_used hwaits (hvalid hfits) (Surface.inUse_iff.mpr hused)))
      · exact (exec_surfaceSet hpart hwaits hkind).trans (congrArg _
          (State.serveSurfaceSet_of_free hwaits (hvalid hfits) (mt Surface.inUse_iff.mp hused)))
  · intro a inRange valid
    refine ⟨fun houtside => ?_, fun n hn => ?_⟩
    · exact (exec_clipSet hpart hwaits hkind).trans (congrArg _ (State.serveClipSet_of_outside hwaits houtside))
    · intro k
      have hserves := (exec_clipSet hpart hwaits hkind).trans
        (congrArg Host.Outcome.next (State.serveClipSet_of_surface hwaits hn))
      have hvalid (h : valid) : ¬(!a.valid) = true := by simp [ClipSetArgs.valid_iff.mpr h]
      have hset (h : k.state = .set) : ¬k.state = .unset := fun h' => nomatch h.symm.trans h'
      refine ⟨fun hbad => ?_, fun hgood hstate => ?_, fun hgood hstate hused => ?_, fun hgood hstate hused => ?_⟩
      · exact hserves.trans (congrArg _ (if_pos (by simpa using mt ClipSetArgs.valid_iff.mp hbad)))
      · rw [if_neg (hvalid hgood), if_pos hstate] at hserves
        exact hserves
      · rw [if_neg (hvalid hgood), if_neg (hset hstate), if_pos (Surface.inUse_iff.mpr hused)] at hserves
        exact hserves
      · intro inside clip
        have hclip : a.clip k = clip := a.clip_eq k
        rw [if_neg (hvalid hgood), if_neg (hset hstate), if_neg (mt Surface.inUse_iff.mp hused)] at hserves
        rw [← hclip]
        obtain ⟨-, -, -, -, hx, hy⟩ := hgood
        exact ⟨hserves, a.mem_clip k, ClipSetArgs.clip_eq_none_iff k hx hy⟩

end Sys2Proof.Machine
end


section
/-! PROOFS. Lane entries that are served and answered in one handling, and LANE_MOTION (section 3.4, Tables 16
and 17). -/

namespace Sys2Proof.Machine

/-! ### Lane entries that end when taken (R32) -/

section

variable {s : State} {r : RingId} {e : WorkEntry} {command : Instr} {kind : Kind} {op : Nat → Bool}

/-- A row of the Lane Unit that fails the entry it takes. -/
theorem exec_lane_fails (hexec : exec command s = .next (s.takeLaneEntry r kind op)) (hpart : s.part ≠ .resetting)
    (hwaits : s.waitsAt r e) (hfree : s.laneFree) (hkind : e.kind = some kind) (hop : op e.operation = true)
    {status : Status} (h : s.blocks.serveLane r e = s.blocks.laneAnswer r (.failed status)) :
    exec command s = .next (s.answered r (.failed status)) := by
  rw [hexec, State.takeLaneEntry_fails hpart hwaits hkind hop hfree h]

/-- A row of the Lane Unit that changes one lane record, and what it unpins, and answers. -/
theorem exec_lane_ends (hexec : exec command s = .next (s.takeLaneEntry r kind op)) (hpart : s.part ≠ .resetting)
    (hwaits : s.waitsAt r e) (hfree : s.laneFree) (hkind : e.kind = some kind) (hop : op e.operation = true)
    {g : GlyphTable} {l : LaneId} {k : Lane} {a : Answer}
    (h : s.blocks.serveLane r e = ({ s.blocks.setLane l k with glyph := g } : Blocks).laneAnswer r a) :
    exec command s =
      .next (((s.withGlyph g).withLane { s.lane with lanes := update s.lane.lanes l k }).answered r a) := by
  rw [hexec, State.takeLaneEntry_answered hpart hwaits hkind hop hfree g
    { s.lane with lanes := update s.lane.lanes l k } a h hfree.2]

/-- A row of the Lane Unit that changes one lane record and answers. -/
theorem exec_lane_ends_lane (hexec : exec command s = .next (s.takeLaneEntry r kind op)) (hpart : s.part ≠ .resetting)
    (hwaits : s.waitsAt r e) (hfree : s.laneFree) (hkind : e.kind = some kind) (hop : op e.operation = true)
    {l : LaneId} {k : Lane} {a : Answer} (h : s.blocks.serveLane r e = (s.blocks.setLane l k).laneAnswer r a) :
    exec command s = .next ((s.withLane { s.lane with lanes := update s.lane.lanes l k }).answered r a) :=
  exec_lane_ends (g := s.glyph) hexec hpart hwaits hfree hkind hop h

end

/-! ### LANE_MOTION (R63 to R65) -/

section

variable {b : Blocks} {r : RingId} {e : WorkEntry} {l : LaneId} {status : Status}

theorem Blocks.serveLane_laneMotion (h : e.kind = some .laneMotion) : b.serveLane r e = b.laneMotion r e := by
  simp only [Blocks.serveLane, h]

theorem Blocks.laneMove_of_error (h : b.checkLane (e.u8 0x04) = .error status) (allowed : Lane → Bool)
    (f : Lane → Lane) : b.laneMove allowed f r e = b.laneAnswer r (.failed status) := by
  simp only [Blocks.laneMove, h]

theorem Blocks.laneMove_of_set (hl : e.u8 0x04 = l.1) (hset : (b.laneAt l).state = .set) (allowed : Lane → Bool)
    (f : Lane → Lane) : b.laneMove allowed f r e =
      if allowed (b.laneAt l) then (b.setLane l (f (b.laneAt l))).laneAnswer r .done
      else b.laneAnswer r (.failed .badOperand) := by
  simp only [Blocks.laneMove, Blocks.checkLane_set l hl hset]

theorem Blocks.laneMotion_of_unknown (h : 5 ≤ e.operation) :
    b.laneMotion r e = b.laneAnswer r (.failed .badOperand) := by
  unfold Blocks.laneMotion
  match e.operation, h with
  | _ + 5, _ => rfl

/-- The five operations fail alike where the lane is not SET. -/
theorem Blocks.laneMotion_of_error (hop : e.operation ≤ 4) (h : b.checkLane (e.u8 0x04) = .error status) :
    b.laneMotion r e = b.laneAnswer r (.failed status) := by
  unfold Blocks.laneMotion
  match e.operation, hop with
  | 0, _ | 1, _ | 2, _ | 3, _ | 4, _ => exact Blocks.laneMove_of_error h _ _

end

theorem Lane.start_of_still {k : Lane} (h : k.motion = .still) :
    k.start = { k with motion := .moving, passCount := 0, countdown := k.loadedCountdown } := by
  simp only [Lane.start, h]

theorem Lane.start_of_not_still {k : Lane} (h : k.motion ≠ .still) : k.start = { k with motion := .moving } := by
  cases hmotion : k.motion with
  | still => exact absurd hmotion h
  | moving | paused => simp only [Lane.start, hmotion]

theorem Lane.pause_eq (k : Lane) : k.pause = { k with motion := if k.motion = .moving then .paused else k.motion } := by
  unfold Lane.pause
  cases k with
  | mk _ _ _ _ _ motion _ _ _ _ => cases motion <;> rfl

theorem Lane.resume_eq (k : Lane) :
    k.resume = { k with motion := if k.motion = .paused then .moving else k.motion } := by
  unfold Lane.resume
  cases k with
  | mk _ _ _ _ _ motion _ _ _ _ => cases motion <;> rfl

theorem Lane.loadedCountdown_of_not_fixed {k : Lane} (h : k.settings.mode ≠ .fixed) :
    k.loadedCountdown = if k.settings.mode = .marquee then k.settings.interval else k.settings.hold := by
  cases hmode : k.settings.mode with
  | fixed => exact absurd hmode h
  | marquee | step => simp [Lane.loadedCountdown, hmode]

/-- The offsets of Table 16, by the mode. -/
theorem Lane.offsetValid_iff (k : Lane) (advance p : Nat) : k.offsetValid advance p = true ↔
    (k.settings.mode = .fixed → p ≤ k.textWidth advance) ∧
      (k.settings.mode ≠ .fixed → k.cycle advance = 0 → p = 0) ∧
      (k.settings.mode ≠ .fixed → 0 < k.cycle advance → p < k.cycle advance) ∧
      (k.settings.mode = .step → 0 < k.cycle advance → ∃ i ≤ k.cells.length, p = i * advance) := by
  rcases Nat.eq_zero_or_pos (k.cycle advance) with hzero | hpos
  · cases hmode : k.settings.mode <;> simp [Lane.offsetValid, hmode, hzero]
  · cases hmode : k.settings.mode with
    | fixed | marquee => simp [Lane.offsetValid, hmode, hpos, hpos.ne']
    | step =>
      simp only [Lane.offsetValid, hmode, hpos.ne', if_false, List.contains_iff_mem, Lane.mem_stops]
      simp [hpos, and_comm]

theorem exec_laneMotionStart (r : RingId) (s : State) : exec (.laneMotionStart r) s =
    .next (s.takeLaneEntry r .laneMotion fun op => op == 0 || decide (4 < op)) := rfl

theorem exec_laneMotionPause (r : RingId) (s : State) : exec (.laneMotionPause r) s =
    .next (s.takeLaneEntry r .laneMotion fun op => op == 1) := rfl

theorem exec_laneMotionResume (r : RingId) (s : State) : exec (.laneMotionResume r) s =
    .next (s.takeLaneEntry r .laneMotion fun op => op == 2) := rfl

theorem exec_laneMotionStop (r : RingId) (s : State) : exec (.laneMotionStop r) s =
    .next (s.takeLaneEntry r .laneMotion fun op => op == 3) := rfl

theorem exec_laneMotionSetOffset (r : RingId) (s : State) : exec (.laneMotionSetOffset r) s =
    .next (s.takeLaneEntry r .laneMotion fun op => op == 4) := rfl

/-- Settles O57: the checks that the operations share, then each operation by `Blocks.laneMove_of_set`. -/
theorem laneMotionOperationsFollowTable17 : Obligations.LaneMotionOperationsFollowTable17 := by
  intro s r e hpart hwaits hfree hkind commands fails
  have hserves : s.blocks.serveLane r e = s.blocks.laneMotion r e := Blocks.serveLane_laneMotion hkind
  have hrow {command : Instr} (hmem : (e.operation, command) ∈ commands) : e.operation ≤ 4 ∧ ∃ op,
      exec command s = .next (s.takeLaneEntry r .laneMotion op) ∧ op e.operation = true := by
    simp only [commands, List.mem_cons, Prod.mk.injEq, List.not_mem_nil, or_false] at hmem
    rcases hmem with ⟨hop, rfl⟩ | ⟨hop, rfl⟩ | ⟨hop, rfl⟩ | ⟨hop, rfl⟩ | ⟨hop, rfl⟩
    · exact ⟨by omega, _, exec_laneMotionStart r s, by simp [hop]⟩
    · exact ⟨by omega, _, exec_laneMotionPause r s, by simp [hop]⟩
    · exact ⟨by omega, _, exec_laneMotionResume r s, by simp [hop]⟩
    · exact ⟨by omega, _, exec_laneMotionStop r s, by simp [hop]⟩
    · exact ⟨by omega, _, exec_laneMotionSetOffset r s, by simp [hop]⟩
  have herror {command : Instr} {status : Status} (hmem : (e.operation, command) ∈ commands)
      (h : s.blocks.checkLane (e.u8 0x04) = .error status) : fails command status := by
    obtain ⟨hop, op, hexec, htakes⟩ := hrow hmem
    exact exec_lane_fails hexec hpart hwaits hfree hkind htakes (hserves.trans (Blocks.laneMotion_of_error hop h))
  refine ⟨fun hop => ?_, fun command hmem hl => herror hmem (Blocks.checkLane_outside hl), fun l hl => ?_⟩
  · exact exec_lane_fails (exec_laneMotionStart r s) hpart hwaits hfree hkind (by simp; omega)
      (hserves.trans (Blocks.laneMotion_of_unknown hop))
  intro k mode ended
  have hends {command : Instr} {allowed : Lane → Bool} {f : Lane → Lane} {k' : Lane}
      (hmem : (e.operation, command) ∈ commands) (hset : k.state = .set)
      (hmove : s.blocks.laneMotion r e = s.blocks.laneMove allowed f r e) (hallowed : allowed k = true)
      (hk' : f k = k') : ended command k' := by
    obtain ⟨-, op, hexec, htakes⟩ := hrow hmem
    rw [Blocks.laneMove_of_set (b := s.blocks) hl hset, if_pos (by exact hallowed)] at hmove
    rw [← hk']
    exact exec_lane_ends_lane hexec hpart hwaits hfree hkind htakes (hserves.trans hmove)
  have hrefused {command : Instr} {allowed : Lane → Bool} {f : Lane → Lane}
      (hmem : (e.operation, command) ∈ commands) (hset : k.state = .set)
      (hmove : s.blocks.laneMotion r e = s.blocks.laneMove allowed f r e) (hallowed : ¬allowed k = true) :
      fails command .badOperand := by
    obtain ⟨-, op, hexec, htakes⟩ := hrow hmem
    rw [Blocks.laneMove_of_set (b := s.blocks) hl hset, if_neg (by exact hallowed)] at hmove
    exact exec_lane_fails hexec hpart hwaits hfree hkind htakes (hserves.trans hmove)
  refine ⟨fun command hmem hunset => herror hmem (Blocks.checkLane_unset l hl hunset), fun hop hset hmode => ?_,
    fun hop hset hmode hstill => ?_, fun hop hset hmode hstill => ?_, fun hop hset => ?_, fun hop hset => ?_,
    fun hop hset => ?_, fun hop hset => ?_⟩
  · refine hrefused (by simp [commands, hop]) hset (by simp only [Blocks.laneMotion, hop]; rfl) ?_
    simpa using hmode
  · refine hends (by simp [commands, hop]) hset (by simp only [Blocks.laneMotion, hop]; rfl) (by simpa using hmode) ?_
    rw [Lane.start_of_still hstill, Lane.loadedCountdown_of_not_fixed hmode]
  · exact hends (by simp [commands, hop]) hset (by simp only [Blocks.laneMotion, hop]; rfl) (by simpa using hmode)
      (Lane.start_of_not_still hstill)
  · exact hends (by simp [commands, hop]) hset (by simp only [Blocks.laneMotion, hop]; rfl) rfl k.pause_eq
  · exact hends (by simp [commands, hop]) hset (by simp only [Blocks.laneMotion, hop]; rfl) rfl k.resume_eq
  · exact hends (by simp [commands, hop]) hset (by simp only [Blocks.laneMotion, hop]; rfl) rfl rfl
  · intro p w cycle inRange
    have hvalid : k.offsetValid (s.advanceOf k) p = true ↔ inRange := k.offsetValid_iff (s.advanceOf k) p
    have hmove : s.blocks.laneMotion r e = s.blocks.laneSetOffset r e := by simp only [Blocks.laneMotion, hop]
    exact ⟨fun h => hends (by simp [commands, hop]) hset hmove (hvalid.mpr h) rfl,
      fun h => hrefused (by simp [commands, hop]) hset hmove (mt hvalid.mp h)⟩

end Sys2Proof.Machine
end


section
/-! PROOFS. LANE_SET and LANE_VIEW SHOW, HIDE and RELEASE (sections 2.3 and 2.5). -/

namespace Sys2Proof.Machine

/-! ### LANE_SET (R33 to R35) -/

theorem lt_of_recordNumber_eq_some {n k : Nat} {i : Fin n} (h : recordNumber n k = some i) : k < n := by
  unfold recordNumber at h
  split at h
  · assumption
  · exact absurd h nofun

/-- The operands of a LANE_SET are in range for a panel (R33). -/
def LaneSetArgs.Valid (a : LaneSetArgs) (panelWidth panelHeight : Nat) : Prop :=
  a.lane < 8 ∧ a.face < 8 ∧ (0 < a.w ∧ 0 < a.h) ∧ a.x + a.w ≤ panelWidth ∧ a.y + a.h ≤ panelHeight ∧
    a.verticalOffset ≤ 31 ∧ (1 ≤ a.interval ∧ a.interval ≤ 64) ∧ (1 ≤ a.hold ∧ a.hold ≤ 255) ∧ a.gap ≤ 1023 ∧
    a.mode ≠ none ∧ a.direction ≠ none ∧ a.events ≠ none ∧ a.signal ≠ none

theorem laneSettingsOf_of_invalid {a : LaneSetArgs} {panelWidth panelHeight : Nat}
    (h : ¬a.Valid panelWidth panelHeight) : laneSettingsOf a panelWidth panelHeight = none := by
  unfold laneSettingsOf
  split
  · next l f mode direction events signal hl hf hmode hdirection hevents hsignal =>
    refine if_neg fun ⟨hw, hh, hx, hy, hv, hi, hhold, hgap⟩ => h ?_
    exact ⟨lt_of_recordNumber_eq_some hl, lt_of_recordNumber_eq_some hf, ⟨hw, hh⟩, hx, hy, hv, hi, hhold, hgap,
      by simp [hmode], by simp [hdirection], by simp [hevents], by simp [hsignal]⟩
  · rfl

/-- The settings that a LANE_SET with these operand values carries. -/
def LaneSetArgs.settings (a : LaneSetArgs) (face : FaceId) (mode : MotionMode) (direction : Direction)
    (events : EventSetting) (signal : Option CounterId) : LaneSettings :=
  ⟨a.x, a.y, a.w, a.h, face, a.ink, a.paper, a.altInk, a.paperClear, a.verticalOffset, mode, direction, a.interval,
    a.hold, a.gap, a.repeats, events, signal⟩

theorem laneSettingsOf_of_valid {a : LaneSetArgs} {panelWidth panelHeight : Nat} (h : a.Valid panelWidth panelHeight)
    {l : LaneId} {f : FaceId} {mode : MotionMode} {direction : Direction} {events : EventSetting}
    {signal : Option CounterId} (hl : a.lane = l.1) (hf : a.face = f.1) (hmode : a.mode = some mode)
    (hdirection : a.direction = some direction) (hevents : a.events = some events) (hsignal : a.signal = some signal) :
    laneSettingsOf a panelWidth panelHeight = some (l, a.settings f mode direction events signal) := by
  obtain ⟨-, -, ⟨hw, hh⟩, hx, hy, hv, hi, hhold, hgap, -⟩ := h
  simp only [laneSettingsOf, recordNumber_eq_some hl, recordNumber_eq_some hf, hmode, hdirection, hevents, hsignal]
  exact if_pos ⟨hw, hh, hx, hy, hv, hi, hhold, hgap⟩

section

variable {b : Blocks} {r : RingId} {e : WorkEntry} {l : LaneId} {v : LaneSettings} {status : Status}

theorem Blocks.serveLane_laneSet (h : e.kind = some .laneSet) : b.serveLane r e = b.laneSet r e := by
  simp only [Blocks.serveLane, h]

theorem Blocks.laneSet_of_invalid (h : laneSettingsOf e.laneSetArgs b.panelWidth b.panelHeight = none) :
    b.laneSet r e = b.laneAnswer r (.failed .badOperand) := by
  simp only [Blocks.laneSet, Blocks.checkLaneSet, h]

/-- A LANE_SET with valid operands: the face's check, the lane's check, and the settings taken. -/
theorem Blocks.laneSet_of_valid (h : laneSettingsOf e.laneSetArgs b.panelWidth b.panelHeight = some (l, v)) :
    b.laneSet r e =
      if b.glyph.faces[v.face].state = .empty then b.laneAnswer r (.failed .notSet)
      else if (b.laneAt l).state = .set ∧ (b.laneAt l).cells ≠ [] ∧ (b.laneAt l).settings.face ≠ v.face then
        b.laneAnswer r (.failed .inUse)
      else (b.setLane l ((b.laneAt l).withSettings v)).laneAnswer r .done := by
  simp only [Blocks.laneSet, Blocks.checkLaneSet, h]
  by_cases hface : b.glyph.faces[v.face].state = .empty
  · simp only [hface, if_true]
  · by_cases hlane : (b.laneAt l).state = .set ∧ (b.laneAt l).cells ≠ [] ∧ (b.laneAt l).settings.face ≠ v.face
    · simp only [hface, if_false, if_pos hlane]
    · simp only [hface, if_false, if_neg hlane]

end

theorem Lane.withSettings_of_unset {k : Lane} (h : k.state = .unset) (v : LaneSettings) :
    k.withSettings v = { Lane.none with state := .set, settings := v } := by
  simp only [Lane.withSettings, h]

theorem Lane.withSettings_of_set {k : Lane} (h : k.state = .set) (v : LaneSettings) :
    k.withSettings v = { k with settings := v, motion := .still, offset := 0, passCount := 0, countdown := 0 } := by
  simp only [Lane.withSettings, h]

theorem exec_laneSet (r : RingId) (s : State) : exec (.laneSet r) s =
    .next (s.takeLaneEntry r .laneSet fun _ => true) := rfl

/-! ### LANE_VIEW (R48, R51) -/

section

variable {b : Blocks} {r : RingId} {e : WorkEntry} {l : LaneId} {status : Status}

theorem Blocks.serveLane_laneView (h : e.kind = some .laneView) : b.serveLane r e = b.laneView r e := by
  simp only [Blocks.serveLane, h]

theorem Blocks.laneView_of_unknown (h : 4 ≤ e.operation) : b.laneView r e = b.laneAnswer r (.failed .badOperand) := by
  unfold Blocks.laneView
  match e.operation, h with
  | _ + 4, _ => rfl

/-- The four operations fail alike where the lane is not SET. -/
theorem Blocks.laneView_of_error (hop : e.operation ≤ 3) (h : b.checkLane (e.u8 0x04) = .error status) :
    b.laneView r e = b.laneAnswer r (.failed status) := by
  unfold Blocks.laneView
  match e.operation, hop with
  | 0, _ | 1, _ => simp only [Blocks.laneVisibility, h]
  | 2, _ => simp only [Blocks.startRefresh, h]
  | 3, _ => simp only [Blocks.laneRelease, h]

theorem Blocks.laneVisibility_of_set (hl : e.u8 0x04 = l.1) (hset : (b.laneAt l).state = .set) (v : Visibility) :
    b.laneVisibility v r e = (b.setLane l { b.laneAt l with visibility := v }).laneAnswer r .done := by
  simp only [Blocks.laneVisibility, Blocks.checkLane_set l hl hset]

theorem Blocks.laneRelease_of_set (hl : e.u8 0x04 = l.1) (hset : (b.laneAt l).state = .set) :
    b.laneRelease r e = ({ b.setLane l Lane.none with
      glyph := b.glyph.unpinAll ((b.laneAt l).cells.map TextCell.slot) } : Blocks).laneAnswer r .done := by
  simp only [Blocks.laneRelease, Blocks.checkLane_set l hl hset]
  rfl

end

theorem exec_laneViewShow (r : RingId) (s : State) : exec (.laneViewShow r) s =
    .next (s.takeLaneEntry r .laneView fun op => op == 0 || decide (3 < op)) := rfl

theorem exec_laneViewHide (r : RingId) (s : State) : exec (.laneViewHide r) s =
    .next (s.takeLaneEntry r .laneView fun op => op == 1) := rfl

theorem exec_laneViewRefresh (r : RingId) (s : State) : exec (.laneViewRefresh r) s =
    .next (s.takeLaneEntry r .laneView fun op => op == 2) := rfl

theorem exec_laneViewRelease (r : RingId) (s : State) : exec (.laneViewRelease r) s =
    .next (s.takeLaneEntry r .laneView fun op => op == 3) := rfl

/-- Settles O53: LANE_SET by `Blocks.laneSet_of_valid`, each LANE_VIEW operation by its own lemma. -/
theorem laneSetAndLaneViewChangeALane : Obligations.LaneSetAndLaneViewChangeALane := by
  intro s r e hpart hwaits hfree fails ended
  refine ⟨fun hkind => ?_, fun hkind => ?_⟩
  · intro a valid
    have hserves : s.blocks.serveLane r e = s.blocks.laneSet r e := Blocks.serveLane_laneSet hkind
    refine ⟨fun hinvalid => ?_, fun l f mode direction events signal hvalid hl hf hmode hdirection hevents hsignal => ?_⟩
    · exact exec_lane_fails (exec_laneSet r s) hpart hwaits hfree hkind rfl
        (hserves.trans (Blocks.laneSet_of_invalid (laneSettingsOf_of_invalid hinvalid)))
    intro k settings loaded
    have hset := hserves.trans
      (Blocks.laneSet_of_valid (laneSettingsOf_of_valid hvalid hl hf hmode hdirection hevents hsignal))
    have hfails {status : Status} (h : s.blocks.serveLane r e = s.blocks.laneAnswer r (.failed status)) :
        fails (.laneSet r) status := exec_lane_fails (exec_laneSet r s) hpart hwaits hfree hkind rfl h
    have hends {k' : Lane} (h : s.blocks.serveLane r e = (s.blocks.setLane l k').laneAnswer r .done) :
        ended (.laneSet r) s.glyph l k' :=
      exec_lane_ends_lane (exec_laneSet r s) hpart hwaits hfree hkind rfl h
    have hface (h : loaded) : ¬s.glyph.faces[f].state = .empty := fun h' => nomatch h.symm.trans h'
    refine ⟨fun hempty => ?_, fun hloaded hstate hcells hother => ?_, fun hloaded hstate => ?_,
      fun hloaded hstate hsame => ?_⟩
    · exact hfails (hset.trans (if_pos hempty))
    · exact hfails (hset.trans ((if_neg (hface hloaded)).trans (if_pos ⟨hstate, hcells, hother⟩)))
    · refine hends (hset.trans ((if_neg (hface hloaded)).trans ((if_neg ?_).trans ?_)))
      · exact fun h => nomatch h.1.symm.trans hstate
      · rw [Lane.withSettings_of_unset (by exact hstate)]
        rfl
    · refine hends (hset.trans ((if_neg (hface hloaded)).trans ((if_neg ?_).trans ?_)))
      · exact fun h => hsame.elim (fun hempty => h.2.1 hempty) fun heq => h.2.2 heq
      · rw [Lane.withSettings_of_set (by exact hstate)]
        rfl
  · intro commands
    have hserves : s.blocks.serveLane r e = s.blocks.laneView r e := Blocks.serveLane_laneView hkind
    have herror {command : Instr} {status : Status} (hmem : (e.operation, command) ∈ commands)
        (h : s.blocks.checkLane (e.u8 0x04) = .error status) : fails command status := by
      have hfails (hop : e.operation ≤ 3) := hserves.trans (Blocks.laneView_of_error (r := r) hop h)
      simp only [commands, List.mem_cons, Prod.mk.injEq, List.not_mem_nil, or_false] at hmem
      rcases hmem with ⟨hop, rfl⟩ | ⟨hop, rfl⟩ | ⟨hop, rfl⟩ | ⟨hop, rfl⟩
      · exact exec_lane_fails (exec_laneViewShow r s) hpart hwaits hfree hkind (by simp [hop]) (hfails (by omega))
      · exact exec_lane_fails (exec_laneViewHide r s) hpart hwaits hfree hkind (by simp [hop]) (hfails (by omega))
      · exact exec_lane_fails (exec_laneViewRefresh r s) hpart hwaits hfree hkind (by simp [hop]) (hfails (by omega))
      · exact exec_lane_fails (exec_laneViewRelease r s) hpart hwaits hfree hkind (by simp [hop]) (hfails (by omega))
    refine ⟨fun hop => ?_, fun command hmem hl => herror hmem (Blocks.checkLane_outside hl), fun l hl => ?_⟩
    · exact exec_lane_fails (exec_laneViewShow r s) hpart hwaits hfree hkind (by simp; omega)
        (hserves.trans (Blocks.laneView_of_unknown hop))
    intro k
    refine ⟨fun command hmem hunset => herror hmem (Blocks.checkLane_unset l hl hunset), fun hop hset => ?_,
      fun hop hset => ?_, fun hop hset => ?_⟩
    · have hview : s.blocks.laneView r e = s.blocks.laneVisibility .shown r e := by simp only [Blocks.laneView, hop]
      exact exec_lane_ends_lane (exec_laneViewShow r s) hpart hwaits hfree hkind (by simp [hop])
        (hserves.trans (hview.trans (Blocks.laneVisibility_of_set (b := s.blocks) hl hset _)))
    · have hview : s.blocks.laneView r e = s.blocks.laneVisibility .hidden r e := by simp only [Blocks.laneView, hop]
      exact exec_lane_ends_lane (exec_laneViewHide r s) hpart hwaits hfree hkind (by simp [hop])
        (hserves.trans (hview.trans (Blocks.laneVisibility_of_set (b := s.blocks) hl hset _)))
    · have hview : s.blocks.laneView r e = s.blocks.laneRelease r e := by simp only [Blocks.laneView, hop]
      exact exec_lane_ends (exec_laneViewRelease r s) hpart hwaits hfree hkind (by simp [hop])
        (hserves.trans (hview.trans (Blocks.laneRelease_of_set hl hset)))

end Sys2Proof.Machine
end


section
/-! PROOFS. LANE_TEXT DELETE, CLEAR and CURSOR, unpinning, and the offset's adjustment (sections 1.3, 2.4 and 3.5). -/

namespace Sys2Proof.Machine

/-! ### LANE_TEXT by its operation (R37, R45 to R47) -/

section

variable {b : Blocks} {r : RingId} {e : WorkEntry} {l : LaneId} {status : Status}

theorem Blocks.serveLane_laneText (h : e.kind = some .laneText) : b.serveLane r e = b.laneText r e := by
  simp only [Blocks.serveLane, h]

theorem Blocks.laneText_of_unknown (h : 5 ≤ e.operation) : b.laneText r e = b.laneAnswer r (.failed .badOperand) := by
  unfold Blocks.laneText
  match e.operation, h with
  | _ + 5, _ => rfl

/-- The five operations fail alike where the lane is not SET. -/
theorem Blocks.laneText_of_error (hop : e.operation ≤ 4) (h : b.checkLane (e.u8 0x04) = .error status) :
    b.laneText r e = b.laneAnswer r (.failed status) := by
  unfold Blocks.laneText
  match e.operation, hop with
  | 0, _ | 1, _ => simp only [Blocks.startEdit, h]
  | 2, _ => simp only [Blocks.laneDelete, h]
  | 3, _ => simp only [Blocks.laneClear, h]
  | 4, _ => simp only [Blocks.laneCursor, h]

/-- A lane is replaced, its offset adjusted, and the cells that leave it are unpinned (R66). -/
theorem Blocks.commitLane_eq (b : Blocks) (l : LaneId) (k : Lane) (leaving : List TextCell) :
    b.commitLane l k leaving = { b.setLane l (k.adjust (b.advanceOf k)) with
      glyph := b.glyph.unpinAll (leaving.map TextCell.slot) } := rfl

theorem Blocks.laneDelete_of_set (hl : e.u8 0x04 = l.1) (hset : (b.laneAt l).state = .set) : b.laneDelete r e =
    if e.u16 0x06 < 1 ∨ 128 < e.u16 0x06 then b.laneAnswer r (.failed .badOperand)
    else (b.commitLane l { b.laneAt l with
        cells := (b.laneAt l).cells.take (b.laneAt l).cursor ++
          (b.laneAt l).cells.drop ((b.laneAt l).cursor + e.u16 0x06) }
      (((b.laneAt l).cells.drop (b.laneAt l).cursor).take (e.u16 0x06))).laneAnswer r .done := by
  simp only [Blocks.laneDelete, Blocks.checkLane_set l hl hset]

theorem Blocks.laneClear_of_set (hl : e.u8 0x04 = l.1) (hset : (b.laneAt l).state = .set) : b.laneClear r e =
    (b.commitLane l { b.laneAt l with cells := [], cursor := 0 } (b.laneAt l).cells).laneAnswer r .done := by
  simp only [Blocks.laneClear, Blocks.checkLane_set l hl hset]

theorem Blocks.laneCursor_of_set (hl : e.u8 0x04 = l.1) (hset : (b.laneAt l).state = .set) : b.laneCursor r e =
    if (b.laneAt l).cells.length < e.u16 0x06 then b.laneAnswer r (.failed .badOperand)
    else (b.setLane l { b.laneAt l with cursor := e.u16 0x06 }).laneAnswer r .done := by
  simp only [Blocks.laneCursor, Blocks.checkLane_set l hl hset]

end

theorem exec_laneTextWrite (r : RingId) (s : State) : exec (.laneTextWrite r) s =
    .next (s.takeLaneEntry r .laneText fun op => op == 0 || decide (4 < op)) := rfl

theorem exec_laneTextInsert (r : RingId) (s : State) : exec (.laneTextInsert r) s =
    .next (s.takeLaneEntry r .laneText fun op => op == 1) := rfl

theorem exec_laneTextDelete (r : RingId) (s : State) : exec (.laneTextDelete r) s =
    .next (s.takeLaneEntry r .laneText fun op => op == 2) := rfl

theorem exec_laneTextClear (r : RingId) (s : State) : exec (.laneTextClear r) s =
    .next (s.takeLaneEntry r .laneText fun op => op == 3) := rfl

theorem exec_laneTextCursor (r : RingId) (s : State) : exec (.laneTextCursor r) s =
    .next (s.takeLaneEntry r .laneText fun op => op == 4) := rfl

/-! ### Unpinning (R8, R9) -/

theorem GlyphTable.unpin_reclaim (g : GlyphTable) (n : SlotId) : (g.unpin n).reclaim =
    if g.slots[n.1].state = .resident ∧ g.slots[n.1].pins = 1 then g.reclaim.filter (· != n) ++ [n] else g.reclaim := by
  unfold GlyphTable.unpin
  simp only [Fin.getElem_fin]
  split <;> rfl

/-! ### The offset after an edit (R66) -/

theorem Lane.adjustedOffset_of_cycle_zero {k : Lane} {advance : Nat} (hmode : k.settings.mode ≠ .fixed)
    (hzero : k.cycle advance = 0) : k.adjustedOffset advance = 0 := by
  cases h : k.settings.mode with
  | fixed => exact absurd h hmode
  | marquee | step => simp [Lane.adjustedOffset, h, hzero]

/-- A STEP lane's offset becomes the greatest stop at or below its remainder. -/
theorem Lane.adjustedOffset_of_step {k : Lane} {advance : Nat} (hmode : k.settings.mode = .step)
    (hpos : 0 < k.cycle advance) :
    k.adjustedOffset advance ∈ k.stops advance ∧ k.adjustedOffset advance ≤ k.offset % k.cycle advance ∧
      ∀ p ∈ k.stops advance, p ≤ k.offset % k.cycle advance → p ≤ k.adjustedOffset advance := by
  have hoffset : k.adjustedOffset advance =
      greatest ((k.stops advance).filter (· ≤ k.offset % k.cycle advance)) := by
    simp only [Lane.adjustedOffset, hmode, hpos.ne', if_false]
  obtain ⟨hbound, hmem⟩ := greatest_spec ((k.stops advance).filter (· ≤ k.offset % k.cycle advance))
  rw [← hoffset] at hbound hmem
  refine ⟨?_, ?_, fun p hp hle => hbound p (List.mem_filter.mpr ⟨hp, decide_eq_true hle⟩)⟩
  · exact hmem.elim (fun hzero => hzero ▸ k.zero_mem_stops advance hpos) fun h => (List.mem_filter.mp h).1
  · exact hmem.elim (fun hzero => hzero ▸ Nat.zero_le _) fun h => of_decide_eq_true (List.mem_filter.mp h).2

/-- Settles O56: each operation by its own lemma, `GlyphTable.unpinAll_pins`, `GlyphTable.unpin_reclaim`, and the
offset by the mode. -/
theorem laneTextDeletesClearsAndMovesTheCursor : Obligations.LaneTextDeletesClearsAndMovesTheCursor := by
  refine ⟨fun s r e hpart hwaits hfree hkind => ?_, fun g slots n => GlyphTable.unpinAll_pins slots g n,
    fun g n => g.unpin_reclaim n, fun k advance => ?_⟩
  · intro commands fails
    have hserves : s.blocks.serveLane r e = s.blocks.laneText r e := Blocks.serveLane_laneText hkind
    have hrow {command : Instr} (hmem : (e.operation, command) ∈ commands) : e.operation ≤ 4 ∧ ∃ op,
        exec command s = .next (s.takeLaneEntry r .laneText op) ∧ op e.operation = true := by
      simp only [commands, List.mem_cons, Prod.mk.injEq, List.not_mem_nil, or_false] at hmem
      rcases hmem with ⟨hop, rfl⟩ | ⟨hop, rfl⟩ | ⟨hop, rfl⟩ | ⟨hop, rfl⟩ | ⟨hop, rfl⟩
      · exact ⟨by omega, _, exec_laneTextWrite r s, by simp [hop]⟩
      · exact ⟨by omega, _, exec_laneTextInsert r s, by simp [hop]⟩
      · exact ⟨by omega, _, exec_laneTextDelete r s, by simp [hop]⟩
      · exact ⟨by omega, _, exec_laneTextClear r s, by simp [hop]⟩
      · exact ⟨by omega, _, exec_laneTextCursor r s, by simp [hop]⟩
    have hfails {command : Instr} {status : Status} (hmem : (e.operation, command) ∈ commands)
        (h : s.blocks.laneText r e = s.blocks.laneAnswer r (.failed status)) : fails command status := by
      obtain ⟨-, op, hexec, htakes⟩ := hrow hmem
      exact exec_lane_fails hexec hpart hwaits hfree hkind htakes (hserves.trans h)
    have herror {command : Instr} {status : Status} (hmem : (e.operation, command) ∈ commands)
        (h : s.blocks.checkLane (e.u8 0x04) = .error status) : fails command status :=
      hfails hmem (Blocks.laneText_of_error (hrow hmem).1 h)
    refine ⟨fun command hmem hl => herror hmem (Blocks.checkLane_outside hl), fun l hl => ?_⟩
    intro k n ended
    have hends {command : Instr} {leaving : List TextCell} {k' : Lane} (hmem : (e.operation, command) ∈ commands)
        (h : s.blocks.laneText r e = ({ s.blocks.setLane l k' with
          glyph := s.glyph.unpinAll (leaving.map TextCell.slot) } : Blocks).laneAnswer r .done) :
        ended command leaving k' := by
      obtain ⟨-, op, hexec, htakes⟩ := hrow hmem
      exact exec_lane_ends hexec hpart hwaits hfree hkind htakes (hserves.trans h)
    have hdelete (hop : e.operation = 2) : s.blocks.laneText r e = s.blocks.laneDelete r e := by
      simp only [Blocks.laneText, hop]
    have hclear (hop : e.operation = 3) : s.blocks.laneText r e = s.blocks.laneClear r e := by
      simp only [Blocks.laneText, hop]
    have hcursor (hop : e.operation = 4) : s.blocks.laneText r e = s.blocks.laneCursor r e := by
      simp only [Blocks.laneText, hop]
    refine ⟨fun command hmem hunset => herror hmem (Blocks.checkLane_unset l hl hunset), fun hop hset hn => ?_,
      fun hop hset hn => ?_, fun hop hset => ?_, fun hop hset hn => ?_, fun hop hset hn => ?_⟩
    · exact hfails (by simp [commands, hop]) ((hdelete hop).trans
        ((Blocks.laneDelete_of_set (b := s.blocks) hl hset).trans (if_pos (by omega))))
    · exact hends (by simp [commands, hop]) ((hdelete hop).trans
        ((Blocks.laneDelete_of_set (b := s.blocks) hl hset).trans (if_neg (by omega))))
    · exact hends (by simp [commands, hop]) ((hclear hop).trans (Blocks.laneClear_of_set (b := s.blocks) hl hset))
    · exact hfails (by simp [commands, hop]) ((hcursor hop).trans ((Blocks.laneCursor_of_set (b := s.blocks) hl hset).trans (if_pos hn)))
    · exact hends (leaving := []) (by simp [commands, hop]) ((hcursor hop).trans
        ((Blocks.laneCursor_of_set (b := s.blocks) hl hset).trans (if_neg (Nat.not_lt.mpr hn))))
  · intro w l offset
    have hcycle : k.cycle advance = l := rfl
    refine ⟨rfl, fun hmode => ?_, fun hmode hzero => Lane.adjustedOffset_of_cycle_zero hmode hzero,
      fun hmode hpos => ?_, fun hmode hpos => Lane.adjustedOffset_of_step hmode hpos⟩
    · exact (by simp only [Lane.adjustedOffset, hmode] : k.adjustedOffset advance = min k.offset (k.textWidth advance))
    · exact (by simp only [Lane.adjustedOffset, hmode, hcycle, hpos.ne', if_false] :
        k.adjustedOffset advance = k.offset % l)

end Sys2Proof.Machine
end


section
/-! PROOFS. The Glyph Table's lookups (sections 1.4 and 1.5): the settled key, a hit, a wait, the start of a fetch,
and the answers without a slot. -/

namespace Sys2Proof.Machine

namespace GlyphTable

variable {g : GlyphTable} {n : SlotId} {who : Requester} {f : FaceId} {code settled : Half} {key : Key}

/-! ### Pins and hits (R8, R13) -/

theorem pin_eq (g : GlyphTable) (n : SlotId) : g.pin n = { g with
    slots := update g.slots n { g.slots[n.1] with pins := g.slots[n.1].pins + 1 },
    reclaim := if g.slots[n.1].state = .resident ∧ g.slots[n.1].pins = 0 then g.reclaim.filter (· != n)
      else g.reclaim } := by
  unfold GlyphTable.pin
  simp only [Fin.getElem_fin]
  split <;> rfl

theorem pinning_iff : pinning who = true ↔ who = .text ∨ who = .laneEdit := by cases who <;> simp [pinning]

theorem hit_of_pinning (h : pinning who = true) : g.hit who n = g.pin n := if_pos h

theorem hit_of_not_pinning (h : ¬pinning who = true) : g.hit who n = { g with
    reclaim := if g.slots[n.1].state = .resident ∧ n ∈ g.reclaim then g.reclaim.filter (· != n) ++ [n]
      else g.reclaim } := by
  rw [GlyphTable.hit, if_neg h]
  simp only [Fin.getElem_fin]
  split <;> rfl

/-! ### Allocation (R17) -/

theorem lowest_free_eq_none (h : ∀ m : SlotId, g.slots[m.1].state ≠ .free) :
    lowest (fun k => k.state == .free) g.slots = none := by
  simpa [lowest_eq_none_iff] using h

theorem allocate_of_lowest (h : lowest (fun k => k.state == .free) g.slots = some n) :
    g.allocate = some (n, g) := by
  simp only [GlyphTable.allocate, h]

theorem allocate_of_reclaim {rest : List SlotId} (hfree : ∀ m : SlotId, g.slots[m.1].state ≠ .free)
    (hreclaim : g.reclaim = n :: rest) :
    g.allocate = some (n, { g.setSlot n { g.slots[n.1] with key := none } with reclaim := rest }) := by
  simp only [GlyphTable.allocate, lowest_free_eq_none hfree, hreclaim]
  rfl

theorem allocate_eq_none (hfree : ∀ m : SlotId, g.slots[m.1].state ≠ .free) (hreclaim : g.reclaim = []) :
    g.allocate = none := by
  simp only [GlyphTable.allocate, lowest_free_eq_none hfree, hreclaim]

/-- The fetch begun in a slot, whatever the allocation has made of the reclaim list and the slot's key. -/
theorem beginFetch_eq (q : GlyphRequest) (n : SlotId) (g : GlyphTable) : g.beginFetch q n = { g with
    slots := update g.slots n { g.slots[n.1] with
      state := .filling, key := some q.key, waiters := [], defineWait := false },
    fetch := some ⟨n, some q.who, glyphAddr g.faces[q.key.face] q.key.code, g.faces[q.key.face].height * 2⟩ } := rfl

/-! ### The fetch queue (R15, R16) -/

/-- While a fetch is in progress no request is started. -/
theorem startRequests_of_fetch (k : Nat) (h : g.fetch ≠ none) : startRequests k g = (g, []) := by
  cases k with
  | zero => rfl
  | succ k =>
    obtain ⟨x, hx⟩ := Option.ne_none_iff_exists'.mp h
    simp only [GlyphTable.startRequests, hx]

theorem startQueue_of_fetch (h : g.fetch ≠ none) : g.startQueue = (g, []) := startRequests_of_fetch _ h

theorem startQueue_of_empty (h : g.queue = []) : g.startQueue = (g, []) := by
  rw [GlyphTable.startQueue, h]
  rfl

theorem request_of_fetch (h : g.fetch ≠ none) (q : GlyphRequest) :
    g.request q = ({ g with queue := g.queue ++ [q] }, []) :=
  startQueue_of_fetch (g := { g with queue := g.queue ++ [q] }) h

/-- Behind no fetch and no request, a request is started at once. -/
theorem request_of_idle (hfetch : g.fetch = none) (hqueue : g.queue = []) (q : GlyphRequest) :
    g.request q = g.startRequest q := by
  have hself : ({ g with queue := [], fetch := none } : GlyphTable) = g := by
    cases g
    simp_all
  simp only [GlyphTable.request, GlyphTable.startQueue, hqueue, List.nil_append, List.length_singleton,
    GlyphTable.startRequests, hfetch, List.append_nil]
  rw [hself]

/-- The start of a lookup's request for a key that is not held. -/
theorem startRequest_of_unheld {q : GlyphRequest} (hwho : q.who ≠ .define) (h : g.slotOf q.key = none) :
    g.startRequest q = match g.allocate with
      | none => (g, [.answered q.who .noSlot])
      | some (n, g') => (g'.beginFetch q n, []) := by
  rw [GlyphTable.startRequest, h]
  simp only [hwho, if_false] <;> rfl

/-! ### The settled key (R12) -/

theorem inRange_iff {face : Face} {code : Half} :
    inRange face code = true ↔ face.first.toNat ≤ code.toNat ∧ code.toNat ≤ face.last.toNat := by
  simp [inRange]

theorem lookup_of_empty (h : g.faces[f].state = .empty) : g.lookup who f code = (g, [.answered who .notSet]) :=
  if_pos h

theorem loaded_ne_empty {face : Face} (h : face.state = .loaded) : ¬face.state = .empty := by simp [h]

/-- The key that a lookup settles on: the code's own where it is held or in range, else the substitute's. -/
def Settles (g : GlyphTable) (f : FaceId) (code settled : Half) : Prop :=
  (settled = code ∧ (g.slotOf ⟨f, code⟩ ≠ none ∨ inRange g.faces[f] code = true)) ∨
    (settled = g.faces[f].substitute ∧ g.slotOf ⟨f, code⟩ = none ∧ ¬inRange g.faces[f] code = true)

theorem lookup_of_held (hface : g.faces[f].state = .loaded) (hsettles : g.Settles f code settled)
    (hheld : g.slotOf ⟨f, settled⟩ = some n) : g.lookup who f code = g.lookupMapped who n := by
  rw [GlyphTable.lookup, if_neg (loaded_ne_empty hface)]
  rcases hsettles with ⟨rfl, -⟩ | ⟨rfl, hnone, hrange⟩
  · simp only [hheld]
  · simp only [hnone, hrange, hheld, Bool.false_eq_true, if_false]

theorem lookup_of_in_range (hface : g.faces[f].state = .loaded) (hsettles : g.Settles f code settled)
    (hheld : g.slotOf ⟨f, settled⟩ = none) (hrange : inRange g.faces[f] settled = true) :
    g.lookup who f code = g.request ⟨who, ⟨f, settled⟩⟩ := by
  rw [GlyphTable.lookup, if_neg (loaded_ne_empty hface)]
  rcases hsettles with ⟨rfl, -⟩ | ⟨rfl, hnone, hout⟩
  · simp only [hheld, hrange, if_true]
  · simp only [hnone, hout, hheld, hrange, Bool.false_eq_true, if_false, if_true]

theorem lookup_of_outside (hface : g.faces[f].state = .loaded) (hsettles : g.Settles f code settled)
    (hheld : g.slotOf ⟨f, settled⟩ = none) (hrange : ¬inRange g.faces[f] settled = true) :
    g.lookup who f code = (g, [.answered who .missing]) := by
  rw [GlyphTable.lookup, if_neg (loaded_ne_empty hface)]
  rcases hsettles with ⟨rfl, hheld' | hrange'⟩ | ⟨rfl, hnone, hout⟩
  · exact absurd hheld hheld'
  · exact absurd hrange' hrange
  · simp only [hnone, hout, hheld, hrange, Bool.false_eq_true, if_false]

theorem lookupMapped_of_filling (h : g.slots[n.1].state = .filling) : g.lookupMapped who n =
    (g.setSlot n { g.slots[n.1] with waiters := g.slots[n.1].waiters ++ [who] }, []) := if_pos h

theorem lookupMapped_of_not_filling (h : g.slots[n.1].state ≠ .filling) :
    g.lookupMapped who n = (g.hit who n, [.answered who (.slot n)]) := if_neg h

end GlyphTable

/-- Settles O45: the lookup by its settled key, then the slot's state, or the request and its allocation. -/
theorem lookupsAnswerWaitOrFetch : Obligations.LookupsAnswerWaitOrFetch := by
  intro g who f code face pins covers
  have hcovers {c : Half} : GlyphTable.inRange g.faces[f] c = true ↔ covers c := GlyphTable.inRange_iff
  refine ⟨GlyphTable.lookup_of_empty, fun settled hface hsettled => ?_⟩
  have hsettles : g.Settles f code settled := by
    rcases hsettled with ⟨h, hown⟩ | ⟨h, hnone, hout⟩
    · exact .inl ⟨h, hown.imp_right hcovers.mpr⟩
    · exact .inr ⟨h, hnone, mt hcovers.mp hout⟩
  have hrequested (hnone : g.slotOf ⟨f, settled⟩ = none) (hin : covers settled) :
      g.lookup who f code = g.request ⟨who, ⟨f, settled⟩⟩ :=
    GlyphTable.lookup_of_in_range hface hsettles hnone (hcovers.mpr hin)
  have hstarted (hnone : g.slotOf ⟨f, settled⟩ = none) (hin : covers settled) (hfetch : g.fetch = none)
      (hqueue : g.queue = []) (hwho : who ≠ .define) :=
    (hrequested hnone hin).trans ((GlyphTable.request_of_idle hfetch hqueue _).trans
      (GlyphTable.startRequest_of_unheld (q := ⟨who, ⟨f, settled⟩⟩) hwho hnone))
  refine ⟨fun n hheld hstate => ?_, fun n hheld hstate hpins => ?_, fun hnone hin hfetch => ?_,
    fun n rest hnone hin hfetch hqueue hwho hfree hreclaim => ?_, fun hnone hin hfetch hqueue hwho hfree hreclaim => ?_,
    fun hnone hout => ?_⟩
  · exact (GlyphTable.lookup_of_held hface hsettles hheld).trans (GlyphTable.lookupMapped_of_filling hstate)
  · rw [GlyphTable.lookup_of_held hface hsettles hheld, GlyphTable.lookupMapped_of_not_filling hstate,
      GlyphTable.hit_of_pinning (GlyphTable.pinning_iff.mpr hpins), GlyphTable.pin_eq]
    rfl
  · exact (hrequested hnone hin).trans (GlyphTable.request_of_fetch hfetch _)
  · rw [hstarted hnone hin hfetch hqueue hwho, GlyphTable.allocate_of_reclaim hfree hreclaim]
    simp [GlyphTable.beginFetch_eq, GlyphTable.setSlot, GlyphTable.glyphAddr, face]
  · rw [hstarted hnone hin hfetch hqueue hwho, GlyphTable.allocate_eq_none hfree hreclaim]
  · exact GlyphTable.lookup_of_outside hface hsettles hnone (mt hcovers.mp hout)

end Sys2Proof.Machine
end


section
/-! PROOFS. Owned entries of the Glyph Table that end when taken (R5), and the face changes of FACE_LOAD and FACE_DROP
(sections 1.1, 1.2 and 2.3). -/

namespace Sys2Proof.Machine

/-! ### Owned entries that are served at once (R5) -/

section

variable {s : State} {r : RingId} {e : WorkEntry} {kind : Kind}

/-- An owned entry that reaches a free Glyph Table is served at once. -/
theorem State.takeGlyphEntry_served (hpart : s.part ≠ .resetting) (hwaits : s.waitsAt r e) (hkind : e.kind = some kind)
    (hfree : s.glyph.service = none) :
    (s.takeBlocksEntry r kind (fun _ => true) fun b e => b.arriveGlyph r e) =
      (s.clearHandover r).runBlocks fun b => b.serveGlyph r e := by
  have harrives : (s.clearHandover r).blocks.arriveGlyph r e = (s.clearHandover r).blocks.serveGlyph r e :=
    if_pos (by rw [Option.isNone_iff_eq_none]; exact hfree)
  unfold State.takeBlocksEntry
  rw [State.quiesce_eq hpart, State.takeEntry_of_waits hwaits hkind rfl, State.runBlocks, State.runBlocks]
  dsimp only
  rw [harrives]

/-- The end of the owned entry in service, no other entry waiting: its answer is given and nothing more is done. -/
theorem Blocks.settle_glyphEnd {b : Blocks} {v : GlyphService} (n : Nat) (a : Answer)
    (hservice : b.glyph.service = some v) (hentries : b.glyph.entries = []) :
    Blocks.settle (n + 2) [.glyphEnd a] b =
      { b with glyph := { b.glyph with service := none, staging := none } }.answerEnded v.ring a := by
  have hends : b.doTask (.glyphEnd a) =
      ({ b with glyph := { b.glyph with service := none, staging := none } }.answerEnded v.ring a, [.glyphTake]) := by
    simp only [Blocks.doTask, Blocks.glyphEnd, hservice]
  rw [Blocks.settle_cons, hends]
  exact Blocks.settle_glyphTake _ (.inr hentries)

theorem State.runBlocks_glyphEnd {f : Blocks → Blocks × List Task} {b : Blocks} {v : GlyphService} {a : Answer}
    (h : f s.blocks = (b, [.glyphEnd a])) (hservice : b.glyph.service = some v) (hentries : b.glyph.entries = []) :
    s.runBlocks f =
      s.putBlocks ({ b with glyph := { b.glyph with service := none, staging := none } }.answerEnded v.ring a) := by
  have hlimit : Config.handlingLimit = 1048574 + 2 := rfl
  rw [State.runBlocks, h]
  dsimp only
  rw [hlimit, Blocks.settle_glyphEnd _ a hservice hentries]

/-- The state that a handling leaves whose only answer ends an owned entry. -/
theorem State.putBlocks_answerEnded {b : Blocks} (hsilent : b.outbox = []) (hawaits : (s.ring r).awaitsAnswer = true)
    (a : Answer) : s.putBlocks (b.answerEnded r a) =
      ((((s.withGlyph b.glyph).withLane b.lane).withRaster b.raster).withSurfaces b.surfaces).withTransit { s.transit with
        answers := update s.transit.answers r (some a), glyphAnswers := s.transit.glyphAnswers ++ [r] } := by
  simp only [State.putBlocks, Blocks.answerEnded, hsilent, List.nil_append]
  exact State.giveGlyphAnswer_of_awaits
    (s := (((s.withGlyph b.glyph).withLane b.lane).withRaster b.raster).withSurfaces b.surfaces) hawaits a

/-- An owned entry that ends in the handling that takes it, whatever it makes of the table and the lanes. -/
theorem State.takeGlyphEntry_ends {g : GlyphTable} {u : LaneUnit} {v : GlyphService} {a : Answer}
    (hpart : s.part ≠ .resetting) (hwaits : s.waitsAt r e) (hkind : e.kind = some kind)
    (hfree : s.glyph.service = none)
    (h : s.blocks.serveGlyph r e = ({ s.blocks with glyph := g, lane := u }, [.glyphEnd a]))
    (hservice : g.service = some v) (hring : v.ring = r) (hentries : g.entries = []) :
    (s.takeBlocksEntry r kind (fun _ => true) fun b e => b.arriveGlyph r e) =
      ((s.withGlyph { g with service := none, staging := none }).withLane u).answeredInOrder r a := by
  rw [State.takeGlyphEntry_served hpart hwaits hkind hfree,
    State.runBlocks_glyphEnd (s := s.clearHandover r) (by exact h) (by exact hservice) (by exact hentries), hring,
    State.putBlocks_answerEnded (b := { s.blocks with glyph := { g with service := none, staging := none }, lane := u })
      rfl (by exact hwaits.2)]
  rfl

/-- The Glyph Table with an entry in service that it has just taken. -/
def GlyphTable.serving (g : GlyphTable) (r : RingId) (e : WorkEntry) : GlyphTable :=
  { g with service := some ⟨r, e, (e.half 0x08).toNat⟩ }

theorem GlyphTable.serving_ends {g : GlyphTable} (hservice : g.service = none) (hstaging : g.staging = none) :
    ({ g.serving r e with service := none, staging := none } : GlyphTable) = g := by
  cases g
  simp_all [GlyphTable.serving]

/-- An owned entry that fails when taken. -/
theorem State.takeGlyphEntry_fails {a : Answer} (hpart : s.part ≠ .resetting) (hwaits : s.waitsAt r e)
    (hkind : e.kind = some kind) (hfree : s.glyphFree)
    (h : s.blocks.serveGlyph r e = ({ s.blocks with glyph := s.glyph.serving r e }, [.glyphEnd a])) :
    (s.takeBlocksEntry r kind (fun _ => true) fun b e => b.arriveGlyph r e) = s.answeredInOrder r a := by
  rw [State.takeGlyphEntry_ends (g := s.glyph.serving r e) (u := s.lane) hpart hwaits hkind hfree.1 h rfl rfl hfree.2.1,
    GlyphTable.serving_ends hfree.1 hfree.2.2]
  rfl

end

/-! ### Face changes (R2 to R4, R36) -/

namespace GlyphTable

theorem faceInUse_iff {g : GlyphTable} {f : FaceId} : g.faceInUse f = true ↔
    (∃ (n : SlotId) (k : Key), g.slots[n.1].key = some k ∧ k.face = f ∧
      (0 < g.slots[n.1].pins ∨ g.slots[n.1].state = .filling)) ∨ ∃ q ∈ g.queue, q.key.face = f := by
  simp only [faceInUse, Bool.or_eq_true, List.any_eq_true, Bool.and_eq_true, beq_iff_eq, decide_eq_true_eq]
  refine or_congr_left ⟨?_, ?_⟩
  · rintro ⟨k, hk, hface, hused⟩
    obtain ⟨i, hi, rfl⟩ := List.getElem_of_mem hk
    obtain ⟨key, hkey, hf⟩ := Option.map_eq_some_iff.mp hface
    exact ⟨⟨i, by simpa using hi⟩, key, by simpa using hkey, hf, by simpa using hused⟩
  · rintro ⟨n, k, hkey, hf, hused⟩
    exact ⟨g.slots[n.1], by simp [Vector.mem_toList_iff], by simp [hkey, hf], hused⟩

theorem ofFace_iff {f : FaceId} {k : Slot} :
    ofFace f k = true ↔ k.key.map Key.face = some f ∧ (k.state = .resident ∨ k.state = .user) := by
  simp [ofFace]

theorem faceLoadValid_iff {a : FaceLoadArgs} : faceLoadValid a = true ↔
    a.face < 8 ∧ a.first.toNat ≤ a.last.toNat ∧ (1 ≤ a.width ∧ a.width ≤ 16) ∧ (1 ≤ a.height ∧ a.height ≤ 32) ∧
      (1 ≤ a.advance ∧ a.advance ≤ 32) ∧ a.stride % 2 = 0 ∧ 2 * a.height ≤ a.stride ∧ a.base.toNat % 2 = 0 ∧
      a.base.toNat + (a.last.toNat - a.first.toNat) * a.stride + 2 * a.height - 1 ≤ 0xFFFFFFFF := by
  simp only [faceLoadValid, Bool.and_eq_true, decide_eq_true_eq, and_assoc]
  rfl

theorem loadFace_of_invalid {g : GlyphTable} {a : FaceLoadArgs} (h : ¬faceLoadValid a = true) :
    g.loadFace a = (g, .error .badOperand) := if_neg h

/-- A valid FACE_LOAD, by the state of its face. -/
theorem loadFace_of_valid {g : GlyphTable} {a : FaceLoadArgs} {f : FaceId} (h : faceLoadValid a = true)
    (hf : a.face = f.1) : g.loadFace a =
      if g.faces[f].state = .empty then (g.setFace f (loadedFace a), .ok f)
      else if g.faceInUse f then (g, .error .inUse)
      else ((g.freeFace f).setFace f (loadedFace a), .ok f) := by
  rw [GlyphTable.loadFace, if_pos h, recordNumber_eq_some hf]

theorem dropFace_of_outside {g : GlyphTable} {n : Nat} (h : 8 ≤ n) : g.dropFace n = (g, .error .badOperand) := by
  rw [GlyphTable.dropFace, recordNumber_eq_none h]

theorem dropFace_of_face {g : GlyphTable} {n : Nat} {f : FaceId} (hf : n = f.1) : g.dropFace n =
    if g.faces[f].state = .empty then (g, .error .notSet)
    else if g.faceInUse f then (g, .error .inUse)
    else ((g.freeFace f).setFace f Face.none, .ok f) := by
  rw [GlyphTable.dropFace, recordNumber_eq_some hf]

end GlyphTable

section

variable {s : State} {r : RingId} {e : WorkEntry} {kind : Kind} {f : FaceId}

theorem Blocks.serveGlyph_faceLoad {b : Blocks} (h : e.kind = some .faceLoad) : b.serveGlyph r e =
    { b with glyph := b.glyph.serving r e }.changeFace ((b.glyph.serving r e).loadFace e.faceLoadArgs) := by
  simp only [Blocks.serveGlyph, h]
  rfl

theorem Blocks.serveGlyph_faceDrop {b : Blocks} (h : e.kind = some .faceDrop) : b.serveGlyph r e =
    { b with glyph := b.glyph.serving r e }.changeFace ((b.glyph.serving r e).dropFace (e.u8 0x04)) := by
  simp only [Blocks.serveGlyph, h]
  rfl

/-- The lanes after a change of face `f` to an advance (R36). -/
def adjustedLanes (lanes : Vector Lane 8) (f : FaceId) (advance : Nat) : Vector Lane 8 :=
  mapTable (fun k => if k.state = .set ∧ k.settings.face = f then k.adjust advance else k) lanes

/-- A face change in the handling that takes the entry: the new record, and the slots and the reclaim list as they
then stand. -/
theorem State.takeGlyphEntry_changes {record : Face} {g : GlyphTable} (hpart : s.part ≠ .resetting)
    (hwaits : s.waitsAt r e) (hkind : e.kind = some kind) (hfree : s.glyphFree)
    (hg : g = { s.glyph.serving r e with slots := g.slots, reclaim := g.reclaim })
    (h : s.blocks.serveGlyph r e =
      { s.blocks with glyph := s.glyph.serving r e }.changeFace (g.setFace f record, .ok f)) :
    (s.takeBlocksEntry r kind (fun _ => true) fun b e => b.arriveGlyph r e) =
      ((s.withGlyph { s.glyph with
        faces := update s.glyph.faces f record, slots := g.slots, reclaim := g.reclaim }).withLane { s.lane with
          lanes := adjustedLanes s.lane.lanes f record.advance }).answeredInOrder r .done := by
  have hserves : s.blocks.serveGlyph r e = ({ s.blocks with
      glyph := g.setFace f record,
      lane := { s.lane with lanes := adjustedLanes s.lane.lanes f record.advance } }, [.glyphEnd .done]) := by
    rw [h]
    simp only [Blocks.changeFace, Blocks.announceFace, GlyphTable.setFace, adjustedLanes, Fin.getElem_fin, update_self]
    rfl
  have hservice : (g.setFace f record).service = some ⟨r, e, (e.half 0x08).toNat⟩ := by
    rw [hg]
    rfl
  have hentries : (g.setFace f record).entries = [] := by
    rw [hg]
    exact hfree.2.1
  have hleft : ({ g.setFace f record with service := none, staging := none } : GlyphTable) = { s.glyph with
      faces := update s.glyph.faces f record, slots := g.slots, reclaim := g.reclaim } := by
    rw [← GlyphTable.serving_ends (r := r) (e := e) hfree.1 hfree.2.2, hg]
    rfl
  rw [State.takeGlyphEntry_ends hpart hwaits hkind hfree.1 hserves hservice rfl hentries, hleft]

end

theorem exec_faceLoad (r : RingId) (s : State) : exec (.faceLoad r) s =
    .next (s.takeBlocksEntry r .faceLoad (fun _ => true) fun b e => b.arriveGlyph r e) := rfl

theorem exec_faceDrop (r : RingId) (s : State) : exec (.faceDrop r) s =
    .next (s.takeBlocksEntry r .faceDrop (fun _ => true) fun b e => b.arriveGlyph r e) := rfl

/-- Settles O41: the outcomes of the two entries, and what a face change leaves of the slots, the reclaim list and the
lanes. -/
theorem faceEntriesChangeAFace : Obligations.FaceEntriesChangeAFace := by
  intro s r e hpart hwaits hfree g a valid owned changed
  have hused (f : FaceId) : (g.serving r e).faceInUse f = true ↔ s.faceUsed f := GlyphTable.faceInUse_iff
  have howned (f : FaceId) (n : SlotId) : GlyphTable.ofFace f g.slots[n.1] = true ↔ owned f g.slots[n.1] :=
    GlyphTable.ofFace_iff
  have hloaded {f : FaceId} (h : g.faces[f].state = .loaded) : ¬(g.serving r e).faces[f].state = .empty :=
    GlyphTable.loaded_ne_empty h
  have hfails {command : Instr} {kind : Kind} {status : Status} {x : GlyphTable × Except Status FaceId}
      (hexec : exec command s = .next (s.takeBlocksEntry r kind (fun _ => true) fun b e => b.arriveGlyph r e))
      (hkind : e.kind = some kind)
      (h : s.blocks.serveGlyph r e = { s.blocks with glyph := g.serving r e }.changeFace x)
      (hx : x = (g.serving r e, .error status)) : exec command s = .next (s.answeredInOrder r (.failed status)) := by
    rw [hexec, State.takeGlyphEntry_fails hpart hwaits hkind hfree (h.trans (by rw [hx]; rfl))]
  have hfills {command : Instr} {kind : Kind} {f : FaceId} {record : Face} {x : GlyphTable × Except Status FaceId}
      (hexec : exec command s = .next (s.takeBlocksEntry r kind (fun _ => true) fun b e => b.arriveGlyph r e))
      (hkind : e.kind = some kind)
      (h : s.blocks.serveGlyph r e = { s.blocks with glyph := g.serving r e }.changeFace x)
      (hx : x = ((g.serving r e).setFace f record, .ok f)) : changed command f record False := by
    refine ⟨_, hexec.trans (congrArg Host.Outcome.next (State.takeGlyphEntry_changes hpart hwaits hkind hfree rfl
      (h.trans (congrArg _ hx)))), rfl, fun n => ⟨fun hf => hf.1.elim, fun _ => rfl⟩, fun n => ?_, fun l => ?_, rfl⟩
    · exact ⟨fun hn => ⟨hn, fun hf => hf.1⟩, fun hn => hn.1⟩
    · exact mapTable_get _ _ l
  have hfrees {command : Instr} {kind : Kind} {f : FaceId} {record : Face} {x : GlyphTable × Except Status FaceId}
      (hexec : exec command s = .next (s.takeBlocksEntry r kind (fun _ => true) fun b e => b.arriveGlyph r e))
      (hkind : e.kind = some kind)
      (h : s.blocks.serveGlyph r e = { s.blocks with glyph := g.serving r e }.changeFace x)
      (hx : x = (((g.serving r e).freeFace f).setFace f record, .ok f)) : changed command f record True := by
    refine ⟨_, hexec.trans (congrArg Host.Outcome.next (State.takeGlyphEntry_changes hpart hwaits hkind hfree rfl
      (h.trans (congrArg _ hx)))), rfl, fun n => ⟨fun hf => ?_, fun hf => ?_⟩, fun n => ?_, fun l => ?_, rfl⟩
    · exact (mapTable_get _ _ n).trans (if_pos ((howned f n).mpr hf.2))
    · exact (mapTable_get _ _ n).trans (if_neg fun h' => hf ⟨trivial, (howned f n).mp h'⟩)
    · refine List.mem_filter.trans (and_congr_right fun _ => ?_)
      rw [true_and]
      exact Bool.not_eq_eq_eq_not.trans (Bool.eq_false_iff.trans (not_congr (howned f n)))
    · exact mapTable_get _ _ l
  refine ⟨fun hkind => ?_, fun hkind => ?_⟩
  · have hserves := Blocks.serveGlyph_faceLoad (r := r) (b := s.blocks) hkind
    refine ⟨fun hbad => hfails (exec_faceLoad r s) hkind hserves (GlyphTable.loadFace_of_invalid fun hv => ?_),
      fun f hf hvalid => ?_⟩
    · obtain ⟨hface, hrest⟩ := GlyphTable.faceLoadValid_iff.mp hv
      exact hbad.elim (fun h => absurd hface (Nat.not_lt.mpr h)) fun h => h hrest
    · have hv := GlyphTable.faceLoadValid_iff.mpr ⟨by rw [hf]; exact f.2, hvalid⟩
      have hload := GlyphTable.loadFace_of_valid (g := g.serving r e) hv hf
      exact ⟨fun hl hu => hfails (exec_faceLoad r s) hkind hserves
          (hload.trans ((if_neg (hloaded hl)).trans (if_pos ((hused f).mpr hu)))),
        fun hempty => hfills (exec_faceLoad r s) hkind hserves (hload.trans (if_pos hempty)),
        fun hl hu => hfrees (exec_faceLoad r s) hkind hserves
          (hload.trans ((if_neg (hloaded hl)).trans (if_neg (mt (hused f).mp hu))))⟩
  · have hserves := Blocks.serveGlyph_faceDrop (r := r) (b := s.blocks) hkind
    refine ⟨fun hout => hfails (exec_faceDrop r s) hkind hserves (GlyphTable.dropFace_of_outside hout), fun f hf => ?_⟩
    have hdrop := GlyphTable.dropFace_of_face (g := g.serving r e) hf
    exact ⟨fun hempty => hfails (exec_faceDrop r s) hkind hserves (hdrop.trans (if_pos hempty)),
      fun hl hu => hfails (exec_faceDrop r s) hkind hserves
        (hdrop.trans ((if_neg (hloaded hl)).trans (if_pos ((hused f).mpr hu)))),
      fun hl hu => hfrees (exec_faceDrop r s) hkind hserves
        (hdrop.trans ((if_neg (hloaded hl)).trans (if_neg (mt (hused f).mp hu))))⟩

end Sys2Proof.Machine
end


section
/-! PROOFS. GLYPH_RELEASE, GLYPH_DEFINE and GLYPH_PRELOAD as they are taken (sections 1.6 to 1.8), and how a handling of
several tasks comes to its end. -/

namespace Sys2Proof.Machine

/-! ### The tasks of a handling -/

/-- The tasks that `b` leaves come to their end at `b'` after `k` of them. -/
def Blocks.Settles (k : Nat) (tasks : List Task) (b b' : Blocks) : Prop := ∀ n, k ≤ n → Blocks.settle n tasks b = b'

theorem Blocks.Settles.nil (b : Blocks) : Blocks.Settles 0 [] b b := fun n _ => Blocks.settle_nil n b

theorem Blocks.Settles.cons {b b₁ b' : Blocks} {t : Task} {rest more : List Task} {k : Nat}
    (h : b.doTask t = (b₁, more)) (h' : Blocks.Settles k (rest ++ more) b₁ b') :
    Blocks.Settles (k + 1) (t :: rest) b b' := by
  intro n hn
  obtain ⟨m, rfl⟩ := Nat.exists_eq_add_of_le' hn
  rw [← Nat.add_assoc, Blocks.settle_cons, h]
  exact h' _ (Nat.le_add_left _ _)

theorem Blocks.Settles.glyphEnd {b : Blocks} {v : GlyphService} (hservice : b.glyph.service = some v)
    (hentries : b.glyph.entries = []) (a : Answer) : Blocks.Settles 2 [.glyphEnd a] b
      ({ b with glyph := { b.glyph with service := none, staging := none } }.answerEnded v.ring a) := by
  intro n hn
  obtain ⟨m, rfl⟩ := Nat.exists_eq_add_of_le' hn
  exact Blocks.settle_glyphEnd m a hservice hentries

theorem State.runBlocks_of_settles {s : State} {f : Blocks → Blocks × List Task} {b b' : Blocks} {tasks : List Task}
    {k : Nat} (h : f s.blocks = (b, tasks)) (h' : Blocks.Settles k tasks b b') (hk : k ≤ 1000) :
    s.runBlocks f = s.putBlocks b' := by
  have hlimit : k ≤ Config.handlingLimit := hk.trans (by decide)
  rw [State.runBlocks, h]
  exact congrArg s.putBlocks (h' _ hlimit)

section

variable {s : State} {r : RingId} {e : WorkEntry} {kind : Kind}

/-- An owned entry that ends after the Glyph Table has answered it something (R5). -/
theorem State.takeGlyphEntry_settles {g g' : GlyphTable} {v : GlyphService} {t : Task} {a : Answer}
    (hpart : s.part ≠ .resetting) (hwaits : s.waitsAt r e) (hkind : e.kind = some kind)
    (hfree : s.glyph.service = none)
    (h : s.blocks.serveGlyph r e = ({ s.blocks with glyph := g }, [t]))
    (ht : ({ s.blocks with glyph := g } : Blocks).doTask t = ({ s.blocks with glyph := g' }, [.glyphEnd a]))
    (hservice : g'.service = some v) (hring : v.ring = r) (hentries : g'.entries = []) :
    (s.takeBlocksEntry r kind (fun _ => true) fun b e => b.arriveGlyph r e) =
      (s.withGlyph { g' with service := none, staging := none }).answeredInOrder r a := by
  rw [State.takeGlyphEntry_served hpart hwaits hkind hfree,
    State.runBlocks_of_settles (s := s.clearHandover r) (k := 3) (by exact h)
      (.cons ht (.glyphEnd (b := { s.blocks with glyph := g' }) hservice hentries a)) (by decide), hring,
    State.putBlocks_answerEnded (b := { s.blocks with glyph := { g' with service := none, staging := none } })
      rfl (by exact hwaits.2)]
  rfl

/-- An owned entry that is still in service when no task is left. -/
theorem State.takeGlyphEntry_serving {g : GlyphTable} (hpart : s.part ≠ .resetting) (hwaits : s.waitsAt r e)
    (hkind : e.kind = some kind) (hfree : s.glyph.service = none)
    (h : s.blocks.serveGlyph r e = ({ s.blocks with glyph := g }, [])) :
    (s.takeBlocksEntry r kind (fun _ => true) fun b e => b.arriveGlyph r e) = (s.clearHandover r).withGlyph g := by
  rw [State.takeGlyphEntry_served hpart hwaits hkind hfree, State.runBlocks_nil (by exact h),
    State.putBlocks_of_silent _ rfl]
  rfl

end

/-! ### GLYPH_RELEASE (R27) -/

section

variable {b : Blocks} {r : RingId} {e : WorkEntry} {f : FaceId} {n : SlotId}

theorem Blocks.serveGlyph_release (h : e.kind = some .glyphRelease) : b.serveGlyph r e =
    ({ b with glyph := ((b.glyph.serving r e).release (e.u8 0x04) (e.half 0x06)).1 },
      [.glyphEnd ⟨((b.glyph.serving r e).release (e.u8 0x04) (e.half 0x06)).2, 0, 0⟩]) := by
  simp only [Blocks.serveGlyph, h]
  rfl

variable {g : GlyphTable} {number : Nat} {code : Half}

theorem GlyphTable.release_of_outside (h : 8 ≤ number) : g.release number code = (g, .badOperand) := by
  rw [GlyphTable.release, recordNumber_eq_none h]

theorem GlyphTable.release_of_unheld (hf : number = f.1) (h : g.slotOf ⟨f, code⟩ = none) :
    g.release number code = (g, .notSet) := by
  simp only [GlyphTable.release, recordNumber_eq_some hf, h]

theorem GlyphTable.release_of_held (hf : number = f.1) (h : g.slotOf ⟨f, code⟩ = some n) : g.release number code =
    if g.slots[n.1].state ≠ .user then (g, .notSet)
    else if 0 < g.slots[n.1].pins then (g, .inUse)
    else (g.setSlot n { g.slots[n.1] with state := .free, key := none }, .ok) := by
  simp only [GlyphTable.release, recordNumber_eq_some hf, h]
  rfl

/-! ### GLYPH_DEFINE (R24) -/

theorem Blocks.serveGlyph_define (h : e.kind = some .glyphDefine) : b.serveGlyph r e =
    { b with glyph := b.glyph.serving r e }.serveDefine ⟨r, e, (e.half 0x08).toNat⟩ := by
  simp only [Blocks.serveGlyph, h]
  rfl

theorem GlyphTable.defineFails_of_outside (h : 8 ≤ number) (addr : Word) :
    g.defineFails number addr = some .badOperand := by
  rw [GlyphTable.defineFails, recordNumber_eq_none h]

theorem GlyphTable.defineFails_of_face (hf : number = f.1) (addr : Word) : g.defineFails number addr =
    if g.faces[f].state = .empty then some .notSet else if addr.toNat % 2 = 1 then some .badOperand else none := by
  rw [GlyphTable.defineFails, recordNumber_eq_some hf]

theorem Blocks.serveDefine_of_fails {v : GlyphService} {status : Status}
    (h : b.glyph.defineFails (v.entry.u8 0x04) (v.entry.word 0x08) = some status) :
    b.serveDefine v = (b, [.glyphEnd (.failed status)]) := by
  simp only [Blocks.serveDefine, h]

theorem Blocks.serveDefine_of_passes {v : GlyphService} (hf : v.entry.u8 0x04 = f.1)
    (h : b.glyph.defineFails (v.entry.u8 0x04) (v.entry.word 0x08) = none) :
    b.serveDefine v = ({ b with glyph := { b.glyph with
      defineRead := some ⟨(v.entry.word 0x08).toNat, b.glyph.faces[f].height * 2⟩ } }, []) := by
  simp only [Blocks.serveDefine, h, Blocks.preloadFace, recordNumber_eq_some hf]

/-! ### GLYPH_PRELOAD (R22, R23) -/

theorem Blocks.serveGlyph_preload (h : e.kind = some .glyphPreload) : b.serveGlyph r e =
    { b with glyph := b.glyph.serving r e }.servePreload ⟨r, e, (e.half 0x08).toNat⟩ := by
  simp only [Blocks.serveGlyph, h]
  rfl

variable {first last : Half}

theorem GlyphTable.preloadFails_of_outside (h : 8 ≤ number) : g.preloadFails number first last = some .badOperand := by
  rw [GlyphTable.preloadFails, recordNumber_eq_none h]

theorem GlyphTable.preloadFails_of_empty (hf : number = f.1) (h : g.faces[f].state = .empty) :
    g.preloadFails number first last = some .notSet := by
  rw [GlyphTable.preloadFails, recordNumber_eq_some hf]
  exact if_pos h

/-- The codes of a preload lie in its face, in order (R22). -/
theorem GlyphTable.preload_inRange_iff {face : Face} :
    (first.toNat ≤ last.toNat ∧ GlyphTable.inRange face first = true ∧ GlyphTable.inRange face last = true) ↔
      face.first.toNat ≤ first.toNat ∧ first.toNat ≤ last.toNat ∧ last.toNat ≤ face.last.toNat := by
  simp only [GlyphTable.inRange_iff]
  omega

theorem GlyphTable.preloadFails_of_loaded (hf : number = f.1) (h : g.faces[f].state = .loaded) :
    g.preloadFails number first last =
      if g.faces[f].first.toNat ≤ first.toNat ∧ first.toNat ≤ last.toNat ∧ last.toNat ≤ g.faces[f].last.toNat then none
      else some .badOperand := by
  rw [GlyphTable.preloadFails, recordNumber_eq_some hf]
  exact (if_neg (GlyphTable.loaded_ne_empty h)).trans (if_congr GlyphTable.preload_inRange_iff rfl rfl)

theorem Blocks.preloadLookup_of_face {v : GlyphService} (hf : v.entry.u8 0x04 = f.1) :
    b.preloadLookup v = b.onGlyph (b.glyph.lookup .preload f (BitVec.ofNat 16 v.code)) := by
  simp only [Blocks.preloadLookup, Blocks.preloadFace, recordNumber_eq_some hf]

theorem Blocks.servePreload_of_fails {v : GlyphService} {status : Status}
    (h : b.glyph.preloadFails (v.entry.u8 0x04) (v.entry.half 0x08) (v.entry.half 0x0A) = some status) :
    b.servePreload v = (b, [.glyphEnd (.failed status)]) := by
  simp only [Blocks.servePreload, h]

/-- A preload whose checks pass looks up its first code. -/
theorem Blocks.servePreload_of_passes (hf : e.u8 0x04 = f.1)
    (h : b.glyph.preloadFails (e.u8 0x04) (e.half 0x08) (e.half 0x0A) = none) :
    b.servePreload ⟨r, e, (e.half 0x08).toNat⟩ = b.onGlyph (b.glyph.lookup .preload f (e.half 0x08)) := by
  simp only [Blocks.servePreload, h]
  rw [Blocks.preloadLookup_of_face (v := ⟨r, e, (e.half 0x08).toNat⟩) hf, BitVec.ofNat_toNat, BitVec.setWidth_eq]

/-- The preload takes the answer that its last code is held. -/
theorem Blocks.preload_last {v : GlyphService} (hservice : b.glyph.service = some v)
    (h : (v.entry.half 0x0A).toNat ≤ v.code) :
    b.doTask (.answered .preload (.slot n)) = (b, [.glyphEnd .done]) := by
  simp only [Blocks.doTask, Blocks.answered, Blocks.preloadAnswered, hservice, h, if_true]

/-- The preload takes the answer that its code is held, and looks up the next. -/
theorem Blocks.preload_next {v : GlyphService} (hservice : b.glyph.service = some v) (hf : v.entry.u8 0x04 = f.1)
    (h : v.code < (v.entry.half 0x0A).toNat) : b.doTask (.answered .preload (.slot n)) =
      b.onGlyph (({ b.glyph with service := some { v with code := v.code + 1 } } : GlyphTable).lookup .preload f
        (BitVec.ofNat 16 (v.code + 1))) := by
  simp only [Blocks.doTask, Blocks.answered, Blocks.preloadAnswered, hservice, Nat.not_le.mpr h, if_false]
  exact Blocks.preloadLookup_of_face (v := { v with code := v.code + 1 }) hf

/-- The preload ends PARTIAL where its code finds no slot. -/
theorem Blocks.preload_noSlot {v : GlyphService} (hservice : b.glyph.service = some v) :
    b.doTask (.answered .preload .noSlot) =
      (b, [.glyphEnd (.partially ((v.entry.half 0x0A).toNat - v.code + 1) 0)]) := by
  simp only [Blocks.doTask, Blocks.answered, Blocks.preloadAnswered, hservice]

end

theorem exec_glyphRelease (r : RingId) (s : State) : exec (.glyphRelease r) s =
    .next (s.takeBlocksEntry r .glyphRelease (fun _ => true) fun b e => b.arriveGlyph r e) := rfl

theorem exec_glyphDefine (r : RingId) (s : State) : exec (.glyphDefine r) s =
    .next (s.takeBlocksEntry r .glyphDefine (fun _ => true) fun b e => b.arriveGlyph r e) := rfl

theorem exec_glyphPreload (r : RingId) (s : State) : exec (.glyphPreload r) s =
    .next (s.takeBlocksEntry r .glyphPreload (fun _ => true) fun b e => b.arriveGlyph r e) := rfl

/-- The Glyph Table, with its slots and reclaim list changed, once the entry it has just taken has ended. -/
theorem GlyphTable.serving_ends_with {g : GlyphTable} {r : RingId} {e : WorkEntry} (hservice : g.service = none)
    (hstaging : g.staging = none) (slots : Vector Slot 384) (reclaim : List SlotId) :
    ({ g.serving r e with slots := slots, reclaim := reclaim, service := none, staging := none } : GlyphTable) =
      { g with slots := slots, reclaim := reclaim } := by
  cases g
  simp_all [GlyphTable.serving]

theorem Answer.partially_eq {a b : Nat} (ha : a < 65536) (hb : b < 65536) :
    Answer.partially a b = ⟨.partially, BitVec.ofNat 16 a, BitVec.ofNat 16 b⟩ := by
  simp only [Answer.partially, toDetail, ha, hb, if_true]

theorem GlyphTable.lowest_free_eq_some {g : GlyphTable} {n : SlotId} (h : g.slots[n.1].state = .free)
    (hlow : ∀ m : SlotId, m < n → g.slots[m.1].state ≠ .free) : lowest (fun k => k.state == .free) g.slots = some n :=
  lowest_eq_some_iff.mpr ⟨by simpa using h, fun m hm => by simpa using hlow m hm⟩

/-- Settles O42: each entry by its checks, and a preload by what its first lookup finds. -/
theorem glyphEntriesReleaseDefineAndPreload : Obligations.GlyphEntriesReleaseDefineAndPreload := by
  intro s r e hpart hwaits hfree g fails first last serving
  have hrelease (hkind : e.kind = some .glyphRelease) (g' : GlyphTable) (status : Status)
      (h : (g.serving r e).release (e.u8 0x04) (e.half 0x06) = (g', status))
      (hservice : g'.service = (g.serving r e).service) (hentries : g'.entries = g.entries) :
      exec (.glyphRelease r) s =
        .next ((s.withGlyph { g' with service := none, staging := none }).answeredInOrder r ⟨status, 0, 0⟩) := by
    have hserves := Blocks.serveGlyph_release (b := s.blocks) (r := r) hkind
    rw [exec_glyphRelease, State.takeGlyphEntry_ends (g := g') (u := s.lane) (a := ⟨status, 0, 0⟩) hpart hwaits hkind
      hfree.1 (hserves.trans (by rw [show s.blocks.glyph = g from rfl, h]; rfl)) hservice rfl
      (hentries.trans hfree.2.1)]
    rfl
  have hreleaseFails (hkind : e.kind = some .glyphRelease) (status : Status)
      (h : (g.serving r e).release (e.u8 0x04) (e.half 0x06) = (g.serving r e, status)) :
      fails (.glyphRelease r) status := by
    have := hrelease hkind (g.serving r e) status h rfl rfl
    rw [GlyphTable.serving_ends hfree.1 hfree.2.2] at this
    exact this
  have hdefineFails (hkind : e.kind = some .glyphDefine) (status : Status)
      (h : (g.serving r e).defineFails (e.u8 0x04) (e.word 0x08) = some status) : fails (.glyphDefine r) status :=
    (exec_glyphDefine r s).trans (congrArg _ (State.takeGlyphEntry_fails hpart hwaits hkind hfree
      ((Blocks.serveGlyph_define hkind).trans (Blocks.serveDefine_of_fails h))))
  have hpreloadFails (hkind : e.kind = some .glyphPreload) (status : Status)
      (h : (g.serving r e).preloadFails (e.u8 0x04) (e.half 0x08) (e.half 0x0A) = some status) :
      fails (.glyphPreload r) status :=
    (exec_glyphPreload r s).trans (congrArg _ (State.takeGlyphEntry_fails hpart hwaits hkind hfree
      ((Blocks.serveGlyph_preload hkind).trans (Blocks.servePreload_of_fails h))))
  refine ⟨fun hout => ⟨fun hkind => hreleaseFails hkind _ (GlyphTable.release_of_outside hout),
    fun hkind => hdefineFails hkind _ (GlyphTable.defineFails_of_outside hout _),
    fun hkind => hpreloadFails hkind _ (GlyphTable.preloadFails_of_outside hout)⟩, fun f hf => ?_⟩
  intro held
  refine ⟨fun hkind => ⟨fun hnone => ?_, fun n hn hstate => ?_, fun n hn hstate hpins => ?_, fun n hn hstate hpins => ?_⟩,
    fun hkind => ⟨fun hempty => ?_, fun hloaded hodd => ?_, fun hloaded heven => ?_⟩, fun hkind => ?_⟩
  · exact hreleaseFails hkind _ (GlyphTable.release_of_unheld hf hnone)
  · exact hreleaseFails hkind _ ((GlyphTable.release_of_held (g := g.serving r e) hf hn).trans (if_pos hstate))
  · exact hreleaseFails hkind _ ((GlyphTable.release_of_held (g := g.serving r e) hf hn).trans
      ((if_neg (not_not.mpr hstate)).trans (if_pos hpins)))
  · have hfreed := (GlyphTable.release_of_held (g := g.serving r e) hf hn).trans
      ((if_neg (not_not.mpr hstate)).trans (if_neg (by exact hpins.not_gt)))
    exact (hrelease hkind _ _ hfreed rfl rfl).trans (congrArg (fun g' => Host.Outcome.next
      ((s.withGlyph g').answeredInOrder r .done)) (GlyphTable.serving_ends_with (r := r) (e := e) hfree.1 hfree.2.2 _ _))
  · exact hdefineFails hkind _ ((GlyphTable.defineFails_of_face hf _).trans (if_pos hempty))
  · exact hdefineFails hkind _ ((GlyphTable.defineFails_of_face hf _).trans
      ((if_neg (GlyphTable.loaded_ne_empty hloaded)).trans (if_pos hodd)))
  · have hpasses : (g.serving r e).defineFails (e.u8 0x04) (e.word 0x08) = none :=
      (GlyphTable.defineFails_of_face hf _).trans
        ((if_neg (GlyphTable.loaded_ne_empty hloaded)).trans (if_neg (by simp [heven])))
    rw [exec_glyphDefine, State.takeGlyphEntry_serving hpart hwaits hkind hfree.1
      ((Blocks.serveGlyph_define hkind).trans (Blocks.serveDefine_of_passes hf hpasses)), Nat.mul_comm]
    rfl
  · intro face inFace
    have hpasses (hloaded : face.state = .loaded) (hin : inFace) :
        (g.serving r e).preloadFails (e.u8 0x04) (e.half 0x08) (e.half 0x0A) = none :=
      (GlyphTable.preloadFails_of_loaded (g := g.serving r e) hf hloaded).trans (if_pos hin)
    have hfirst (hin : inFace) : (g.serving r e).Settles f (e.half 0x08) (e.half 0x08) :=
      .inl ⟨rfl, .inr (GlyphTable.inRange_iff.mpr ⟨hin.1, hin.2.1.trans hin.2.2⟩)⟩
    have hserves (hloaded : face.state = .loaded) (hin : inFace) {g' : GlyphTable} {tasks : List Task}
        (h : (g.serving r e).lookup .preload f (e.half 0x08) = (g', tasks)) :
        s.blocks.serveGlyph r e = ({ s.blocks with glyph := g' }, tasks) :=
      (Blocks.serveGlyph_preload hkind).trans ((Blocks.servePreload_of_passes hf (hpasses hloaded hin)).trans
        (congrArg s.blocks.onGlyph h))
    have hheld (hloaded : face.state = .loaded) (hin : inFace) {n : SlotId} (hn : g.slotOf ⟨f, e.half 0x08⟩ = some n)
        (hstate : g.slots[n].state ≠ .filling) : (g.serving r e).lookup .preload f (e.half 0x08) =
          ((g.serving r e).hit .preload n, [.answered .preload (.slot n)]) :=
      (GlyphTable.lookup_of_held (g := g.serving r e) hloaded (hfirst hin) hn).trans
        (GlyphTable.lookupMapped_of_not_filling (by exact hstate))
    have hhit (n : SlotId) := GlyphTable.hit_of_not_pinning (g := g.serving r e) (n := n) (who := .preload) (by decide)
    have hunheld (hloaded : face.state = .loaded) (hin : inFace) (hn : g.slotOf ⟨f, e.half 0x08⟩ = none)
        (hfetch : g.fetch = none) (hqueue : g.queue = []) :=
      (GlyphTable.lookup_of_in_range (g := g.serving r e) (who := .preload) hloaded (hfirst hin) hn
        (GlyphTable.inRange_iff.mpr ⟨hin.1, hin.2.1.trans hin.2.2⟩)).trans
        ((GlyphTable.request_of_idle (g := g.serving r e) hfetch hqueue _).trans
          (GlyphTable.startRequest_of_unheld (q := ⟨.preload, ⟨f, e.half 0x08⟩⟩) (by simp) hn))
    refine ⟨fun hempty => ?_, fun hloaded hout => ?_, fun n hloaded hin hlast hn hstate => ?_,
      fun n hloaded hin hn hfetch hqueue hlowest => ?_, fun n g' hloaded hin hlast hn hstate hnext => ?_,
      fun hloaded hin hn hfetch hqueue hnofree hreclaim hcount => ?_⟩
    · exact hpreloadFails hkind _ (GlyphTable.preloadFails_of_empty hf hempty)
    · exact hpreloadFails hkind _ ((GlyphTable.preloadFails_of_loaded (g := g.serving r e) hf hloaded).trans
        (if_neg hout))
    · have hlooked := (hheld hloaded hin hn hstate).trans (by rw [hhit n])
      rw [exec_glyphPreload, State.takeGlyphEntry_settles hpart hwaits hkind hfree.1
        (hserves hloaded hin hlooked) (Blocks.preload_last rfl (by exact hlast.ge)) rfl rfl (by exact hfree.2.1)]
      exact congrArg (fun g' => Host.Outcome.next ((s.withGlyph g').answeredInOrder r .done))
        (GlyphTable.serving_ends_with (r := r) (e := e) hfree.1 hfree.2.2 _ _)
    · have hfetches := (hunheld hloaded hin hn hfetch hqueue).trans
        (by rw [GlyphTable.allocate_of_lowest (g := g.serving r e)
          (GlyphTable.lowest_free_eq_some hlowest.1 hlowest.2)])
      rw [exec_glyphPreload, State.takeGlyphEntry_serving hpart hwaits hkind hfree.1 (hserves hloaded hin hfetches),
        GlyphTable.beginFetch_eq, Nat.mul_comm]
      rfl
    · have hlooked := (hheld hloaded hin hn hstate).trans (by rw [hhit n])
      have hgoes := (Blocks.preload_next (n := n) (v := ⟨r, e, first⟩) (f := f) (b := { s.blocks with
        glyph := { g.serving r e with
          reclaim := if g.slots[n].state = .resident ∧ n ∈ g.reclaim then g.reclaim.filter (· != n) ++ [n]
            else g.reclaim } }) rfl hf hlast).trans (congrArg s.blocks.onGlyph hnext)
      rw [exec_glyphPreload, State.takeGlyphEntry_served hpart hwaits hkind hfree.1,
        State.runBlocks_of_settles (s := s.clearHandover r) (by exact hserves hloaded hin hlooked)
          (.cons hgoes (.nil _)) (by decide), State.putBlocks_of_silent _ rfl]
      rfl
    · have hlooked := (hunheld hloaded hin hn hfetch hqueue).trans
        (by rw [GlyphTable.allocate_eq_none (g := g.serving r e) hnofree hreclaim])
      rw [exec_glyphPreload, State.takeGlyphEntry_settles hpart hwaits hkind hfree.1 (hserves hloaded hin hlooked)
        (Blocks.preload_noSlot rfl) rfl rfl (by exact hfree.2.1), GlyphTable.serving_ends hfree.1 hfree.2.2,
        Answer.partially_eq (by exact Nat.succ_lt_succ hcount) (by decide)]
      rfl

end Sys2Proof.Machine
end


section
/-! PROOFS. The end of a define's bitmap read, and the define commit (section 1.7). -/

namespace Sys2Proof.Machine

/-! ### The define commit (R25, R26) -/

namespace GlyphTable

variable {g : GlyphTable} {n : SlotId} {key : Key}

theorem defineInPlace_of_user (h : g.slots[n.1].state = .user) : g.defineInPlace n =
    (g.setSlot n { g.slots[n.1] with bitmap := bitmapOf (g.staging.getD []) }, [.glyphEnd .done]) := if_pos h

theorem defineInPlace_of_full (h : g.slots[n.1].state ≠ .user) (hcount : 128 ≤ g.userCount) :
    g.defineInPlace n = (g, [.glyphEnd ⟨.noSlot, 0, 1⟩]) := (if_neg h).trans (if_pos hcount)

theorem defineInPlace_of_room (h : g.slots[n.1].state ≠ .user) (hcount : g.userCount < 128) : g.defineInPlace n =
    ((g.setSlot n { g.slots[n.1] with bitmap := bitmapOf (g.staging.getD []), state := .user }).unlist n,
      [.glyphEnd .done]) := (if_neg h).trans (if_neg (Nat.not_le.mpr hcount))

theorem defineAllocate_of_full (hcount : 128 ≤ g.userCount) :
    g.defineAllocate key = (g, [.glyphEnd ⟨.noSlot, 0, 1⟩]) := if_pos hcount

theorem defineAllocate_of_none (hcount : g.userCount < 128) (h : g.allocate = none) :
    g.defineAllocate key = (g, [.glyphEnd ⟨.noSlot, 0, 0⟩]) :=
  (if_neg (Nat.not_le.mpr hcount)).trans (by rw [h]; rfl)

theorem defineAllocate_of_some {g' : GlyphTable} (hcount : g.userCount < 128) (h : g.allocate = some (n, g')) :
    g.defineAllocate key = (g'.setSlot n { g'.slots[n.1] with
      state := .user, key := some key, pins := 0, bitmap := bitmapOf (g.staging.getD []),
      waiters := [], defineWait := false }, [.glyphEnd .done]) :=
  (if_neg (Nat.not_le.mpr hcount)).trans (by rw [h])

theorem defineCommit_of_held (h : g.slotOf key = some n) : g.defineCommit key =
    if g.slots[n.1].state = .filling then (g.setSlot n { g.slots[n.1] with defineWait := true }, [])
    else g.defineInPlace n := by
  simp only [GlyphTable.defineCommit, h]
  rfl

theorem defineCommit_of_unheld (h : g.slotOf key = none) : g.defineCommit key = g.request ⟨.define, key⟩ := by
  simp only [GlyphTable.defineCommit, h]

/-- A define's request that is started at once allocates (R26). -/
theorem startRequest_define (h : g.slotOf key = none) : g.startRequest ⟨.define, key⟩ = g.defineAllocate key := by
  simp only [GlyphTable.startRequest, h, if_true]

theorem defineCommit_of_idle (h : g.slotOf key = none) (hfetch : g.fetch = none) (hqueue : g.queue = []) :
    g.defineCommit key = g.defineAllocate key :=
  (defineCommit_of_unheld h).trans ((request_of_idle hfetch hqueue _).trans (startRequest_define h))

end GlyphTable

/-! ### The end of the bitmap read (R24, R29) -/

section

variable {s : State} {v : GlyphService} {span : ReadSpan} {read : ReadEnd}

theorem exec_defineReadEnd_of_define (hpart : s.part ≠ .resetting) (hread : s.glyph.defineRead = some span) :
    exec (.defineReadEnd read) s = .next (s.runBlocks fun b => b.defineReadEnds read) := by
  have hexec : exec (.defineReadEnd read) s = execDefineReadEnd read s := rfl
  simp only [hexec, execDefineReadEnd, State.quiesce_eq hpart, hread, Option.isSome_some, if_true]

theorem exec_defineReadEnd_of_lost (hpart : s.part ≠ .resetting) (hread : s.glyph.defineRead = none) :
    exec (.defineReadEnd read) s = .next (s.withGlyph { s.glyph with lostReads := s.glyph.lostReads.tail }) := by
  have hexec : exec (.defineReadEnd read) s = .next (if s.quiesce.glyph.defineRead.isSome then
      s.quiesce.runBlocks fun b => b.defineReadEnds read else s.quiesce.dropDefineRead) := rfl
  rw [hexec, State.quiesce_eq hpart, if_neg (by simp [hread])]
  rfl

theorem exec_defineReadEnd_ends {g : GlyphTable} {a : Answer} (hpart : s.part ≠ .resetting)
    (hread : s.glyph.defineRead = some span) (hawaits : (s.ring v.ring).awaitsAnswer = true)
    (h : s.blocks.defineReadEnds read = ({ s.blocks with glyph := g }, [.glyphEnd a])) (hservice : g.service = some v)
    (hentries : g.entries = []) : exec (.defineReadEnd read) s =
      .next ((s.withGlyph { g with service := none, staging := none }).withTransit { s.transit with
        answers := update s.transit.answers v.ring (some a), glyphAnswers := s.transit.glyphAnswers ++ [v.ring] }) := by
  rw [exec_defineReadEnd_of_define hpart hread, State.runBlocks_glyphEnd h hservice hentries,
    State.putBlocks_answerEnded (b := { s.blocks with glyph := { g with service := none, staging := none } })
      rfl hawaits]
  rfl

theorem exec_defineReadEnd_waits {g : GlyphTable} (hpart : s.part ≠ .resetting)
    (hread : s.glyph.defineRead = some span)
    (h : s.blocks.defineReadEnds read = ({ s.blocks with glyph := g }, [])) :
    exec (.defineReadEnd read) s = .next (s.withGlyph g) := by
  rw [exec_defineReadEnd_of_define hpart hread, State.runBlocks_nil h, State.putBlocks_of_silent _ rfl]
  rfl

theorem Blocks.defineReadEnds_busError {b : Blocks} (hservice : b.glyph.service = some v)
    (hread : b.glyph.defineRead = some span) : b.defineReadEnds .busError =
      ({ b with glyph := { b.glyph with defineRead := none } }, [.glyphEnd (.failed .busError)]) := by
  simp only [Blocks.defineReadEnds, hservice, hread]

theorem Blocks.defineReadEnds_ok {b : Blocks} {f : FaceId} (hservice : b.glyph.service = some v)
    (hread : b.glyph.defineRead = some span) (hf : v.entry.u8 0x04 = f.1) (bytes : List Byte) :
    b.defineReadEnds (.ok bytes) = b.onGlyph (({ b.glyph with
      defineRead := none, staging := some (halvesOf (span.len / 2) bytes) } : GlyphTable).defineCommit
        ⟨f, v.entry.half 0x06⟩) := by
  simp only [Blocks.defineReadEnds, hservice, hread, Blocks.preloadFace, recordNumber_eq_some hf]

end

/-- Settles O43: the commit by the slot that holds the key, or else by the fetch, the USER slots and the allocation. -/
theorem defineReadEndCommitsTheGlyph : Obligations.DefineReadEndCommitsTheGlyph := by
  refine ⟨fun s v span f hpart hservice hread hentries hawaits hf => ?_,
    fun s read hpart hread => exec_defineReadEnd_of_lost hpart hread⟩
  intro g key ended
  refine ⟨exec_defineReadEnd_ends hpart hread hawaits (Blocks.defineReadEnds_busError hservice hread) hservice hentries,
    fun bytes => ?_⟩
  intro rows staged command
  have hcommit : s.blocks.defineReadEnds (.ok bytes) = s.blocks.onGlyph (staged.defineCommit key) :=
    Blocks.defineReadEnds_ok hservice hread hf bytes
  have hends {g' : GlyphTable} {a : Answer} (h : staged.defineCommit key = (g', [.glyphEnd a]))
      (hservice : g'.service = some v) (hentries : g'.entries = []) := exec_defineReadEnd_ends hpart hread hawaits
        (hcommit.trans (congrArg s.blocks.onGlyph h)) hservice hentries
  have hwaits {g' : GlyphTable} (h : staged.defineCommit key = (g', [])) :=
    exec_defineReadEnd_waits hpart hread (hcommit.trans (congrArg s.blocks.onGlyph h))
  have hheld {n : SlotId} (hn : g.slotOf key = some n) (hstate : g.slots[n].state ≠ .filling) :
      staged.defineCommit key = staged.defineInPlace n :=
    (GlyphTable.defineCommit_of_held (g := staged) hn).trans (if_neg hstate)
  have hidle (hn : g.slotOf key = none) (hfetch : g.fetch = none) (hqueue : g.queue = []) :
      staged.defineCommit key = staged.defineAllocate key :=
    GlyphTable.defineCommit_of_idle (g := staged) hn hfetch hqueue
  refine ⟨fun n hn hstate => ?_, fun n hn hstate hcount => ?_, fun n hn hstate hcount => ?_, fun n hn hstate => ?_,
    fun n hn hfetch hqueue hcount hlowest => ?_, fun n rest hn hfetch hqueue hcount hreclaim hnofree => ?_,
    fun hn hfetch hqueue hcount hreclaim hnofree => ?_, fun hn hfetch hqueue hcount => ?_, fun hn hfetch => ?_⟩
  · exact hends ((hheld hn (fun h => nomatch hstate.symm.trans h)).trans (GlyphTable.defineInPlace_of_user hstate)) hservice hentries
  · exact hends ((hheld hn (fun h => nomatch hstate.symm.trans h)).trans (GlyphTable.defineInPlace_of_room
      (fun h => nomatch hstate.symm.trans h) hcount)) hservice hentries
  · exact hends ((hheld hn (fun h => nomatch hstate.symm.trans h)).trans (GlyphTable.defineInPlace_of_full
      (fun h => nomatch hstate.symm.trans h) hcount)) hservice hentries
  · exact hwaits ((GlyphTable.defineCommit_of_held (g := staged) hn).trans (if_pos hstate))
  · exact hends ((hidle hn hfetch hqueue).trans (GlyphTable.defineAllocate_of_some hcount
      (GlyphTable.allocate_of_lowest (GlyphTable.lowest_free_eq_some hlowest.1 hlowest.2)))) hservice hentries
  · refine (hends ((hidle hn hfetch hqueue).trans (GlyphTable.defineAllocate_of_some hcount
      (GlyphTable.allocate_of_reclaim hnofree hreclaim))) hservice hentries).trans ?_
    simp only [GlyphTable.setSlot, update_update]
    rfl
  · exact hends ((hidle hn hfetch hqueue).trans (GlyphTable.defineAllocate_of_none hcount
      (GlyphTable.allocate_eq_none hnofree hreclaim))) hservice hentries
  · exact hends ((hidle hn hfetch hqueue).trans (GlyphTable.defineAllocate_of_full hcount)) hservice hentries
  · exact hwaits ((GlyphTable.defineCommit_of_unheld (g := staged) hn).trans
      (GlyphTable.request_of_fetch (g := staged) hfetch _))

end Sys2Proof.Machine
end


section
/-! PROOFS. The validation of raster entries on an IDLE engine (sections 6.2 and 6.3). -/

namespace Sys2Proof.Machine

/-! ### The operands, coordinates and kind checks (R109, Table 28) -/

namespace RasterArgs

variable {a : RasterArgs}

theorem hasSource_iff : a.kind.hasSource = true ↔ a.kind = .copy ∨ a.kind = .expand := by
  cases a.kind <;> simp [RasterKind.hasSource]

theorem operandsValid_iff : a.operandsValid = true ↔
    a.dst ≠ none ∧ (a.kind = .copy ∨ a.kind = .expand → a.src ≠ none) ∧ a.mix ≠ none ∧ a.wrap ≠ none ∧
      a.keyed ≠ none ∧ a.paperClear ≠ none ∧
      (a.kind = .text → a.face ≠ none ∧ (1 ≤ a.count ∧ a.count ≤ 256) ∧ a.listAddr.toNat % 2 = 0) := by
  cases hkind : a.kind <;>
    simp [operandsValid, hkind, RasterKind.hasSource, Option.isSome_iff_ne_none, and_assoc]

theorem coordinatesValid_iff : a.coordinatesValid = true ↔
    (a.kind = .text → (-4096 ≤ a.dx ∧ a.dx ≤ 8191) ∧ (-4096 ≤ a.dy ∧ a.dy ≤ 8191)) ∧
      (a.kind ≠ .text → (1 ≤ a.w ∧ a.w ≤ 4096) ∧ (1 ≤ a.h ∧ a.h ≤ 4096) ∧ (-4096 ≤ a.dx ∧ a.dx ≤ 8191) ∧
        (-4096 ≤ a.dx + a.w - 1 ∧ a.dx + a.w - 1 ≤ 8191) ∧ (-4096 ≤ a.dy ∧ a.dy ≤ 8191) ∧
        (-4096 ≤ a.dy + a.h - 1 ∧ a.dy + a.h - 1 ≤ 8191)) := by
  cases hkind : a.kind <;> simp [coordinatesValid, hkind, inDrawingRange_iff, and_assoc]

/-- The source checks of COPY and EXPAND, once the WRAP flag is one of its two values (R102, R103). -/
theorem tiling_iff (hwrap : a.wrap ≠ none) (src : Surface) :
    (!(a.wrap == some true && a.src == a.dst) && a.sourceValid src) = true ↔
      (a.wrap = some true → a.src ≠ a.dst ∧ a.sx < src.width ∧ a.sy < src.height) ∧
        (a.wrap = some false → a.sx + a.w ≤ src.width ∧ a.sy + a.h ≤ src.height) := by
  obtain ⟨wrap, h⟩ := Option.ne_none_iff_exists'.mp hwrap
  cases wrap <;> simp [sourceValid, h]

theorem kindValid_iff (hwrap : a.wrap ≠ none) (dst src : Surface) : a.kindValid dst src = true ↔
    (a.kind = .copy → src.depth = dst.depth ∧
      (a.wrap = some true → a.src ≠ a.dst ∧ a.sx < src.width ∧ a.sy < src.height) ∧
        (a.wrap = some false → a.sx + a.w ≤ src.width ∧ a.sy + a.h ≤ src.height)) ∧
      (a.kind = .expand → src.depth = 1 ∧
        (a.wrap = some true → a.src ≠ a.dst ∧ a.sx < src.width ∧ a.sy < src.height) ∧
          (a.wrap = some false → a.sx + a.w ≤ src.width ∧ a.sy + a.h ≤ src.height)) := by
  rw [← tiling_iff hwrap src]
  cases hkind : a.kind <;> simp [kindValid, hkind]

end RasterArgs

/-! ### The steps of the validation in order (R109) -/

namespace Blocks

variable {b : Blocks} {a : RasterArgs}

/-- A surface or the face that the entry names is not SET (R109, step 2). -/
def Unset (b : Blocks) (a : RasterArgs) : Prop :=
  (b.surface a.dst).state = .unset ∨ ((a.kind = .copy ∨ a.kind = .expand) ∧ (b.surface a.src).state = .unset) ∨
    (a.kind = .text ∧ ∀ f, a.face = some f → b.glyph.faces[f].state = .empty)

theorem unset_iff : ((b.surface a.dst).state = .unset ∨ (a.kind.hasSource = true ∧ (b.surface a.src).state = .unset) ∨
    (a.kind = .text ∧ (a.face.map fun f => b.glyph.faces[f].state == .empty).getD true = true)) ↔ b.Unset a := by
  rw [RasterArgs.hasSource_iff]
  cases hface : a.face <;> simp [Unset, hface]

theorem rasterFails_of_operands (h : ¬a.operandsValid = true) : b.rasterFails a = some .badOperand :=
  if_pos (by simpa using h)

theorem rasterFails_of_unset (ho : a.operandsValid = true) (hu : b.Unset a) : b.rasterFails a = some .notSet :=
  (if_neg (by simp [ho])).trans (if_pos (unset_iff.mpr hu))

theorem rasterFails_of_set (ho : a.operandsValid = true) (hu : ¬b.Unset a) : b.rasterFails a =
    if !a.coordinatesValid then some .badOperand
    else if !a.kindValid (b.surface a.dst) (b.surface a.src) then some .badOperand else none :=
  (if_neg (by simp [ho])).trans (if_neg (mt unset_iff.mp hu))

end Blocks

/-! ### A claim taken by an IDLE engine (R107, R108) -/

/-- An engine without service and claims takes the claim just lodged. -/
theorem Blocks.lodgeClaim_taken {b : Blocks} (hservice : b.raster.service = none) (hclaims : b.raster.claims = [])
    (c : Claim) : (b.lodgeClaim c).1.takeClaim =
      match b.rasterFails c.entry.rasterArgs with
      | some status => (b.answer c.ring (.failed status), [.rasterTake])
      | none => b.beginOperation c := by
  have hchosen : Blocks.chosenClaim [c] = some c := by
    unfold Blocks.chosenClaim
    cases hcls : c.cls <;> simp [hcls]
  have hself : ({ b with raster := { b.raster with claims := [] } } : Blocks) = b := by rw [← hclaims]
  have htaken : (b.lodgeClaim c).1.takeClaim =
      match ({ b with raster := { b.raster with claims := [] } } : Blocks).rasterFails c.entry.rasterArgs with
      | some status =>
        (({ b with raster := { b.raster with claims := [] } } : Blocks).answer c.ring (.failed status), [.rasterTake])
      | none => ({ b with raster := { b.raster with claims := [] } } : Blocks).beginOperation c := by
    simp only [Blocks.lodgeClaim, Blocks.takeClaim, hservice, hclaims, List.nil_append, hchosen, List.erase_cons_head]
    rfl
  rw [htaken, hself]

section

variable {s : State} {r : RingId} {e : WorkEntry} {kind : Kind}

theorem State.rasterIdle_service (h : s.rasterIdle) : s.raster.service = none := by
  rw [h]
  rfl

theorem State.rasterIdle_claims (h : s.rasterIdle) : s.raster.claims = [] := by
  rw [h]
  rfl

/-- A raster entry that fails its validation on an IDLE engine is answered in the same handling. -/
theorem State.takeRasterEntry_fails {status : Status} (hpart : s.part = .running) (hwaits : s.waitsAt r e)
    (hkind : e.kind = some kind) (hidle : s.rasterIdle) (h : s.blocks.rasterFails e.rasterArgs = some status) :
    s.takeRasterEntry r kind = s.answered r (.failed status) := by
  have htaken := Blocks.lodgeClaim_taken (b := s.blocks) (State.rasterIdle_service hidle)
    (State.rasterIdle_claims hidle) ⟨r, (s.ring r).cls, e⟩
  simp only [h] at htaken
  have hleft : Blocks.Settles 1 [.rasterTake] (s.blocks.answer r (.failed status))
      (s.blocks.answer r (.failed status)) := by
    intro n hn
    obtain ⟨m, rfl⟩ := Nat.exists_eq_add_of_le' hn
    exact Blocks.settle_rasterTake m (State.rasterIdle_claims hidle)
  rw [State.takeRasterEntry_of_waits hpart hwaits hkind,
    State.runBlocks_of_settles (s := s.clearHandover r) (by rfl) (.cons (by exact htaken) hleft) (by decide),
    State.putBlocks_answer hwaits s.blocks rfl]
  rfl

/-- A raster entry that passes its validation on an IDLE engine begins its operation in the same handling. -/
theorem State.takeRasterEntry_begins {b : Blocks} {tasks : List Task} {k : Nat} {b' : Blocks}
    (hpart : s.part = .running) (hwaits : s.waitsAt r e) (hkind : e.kind = some kind) (hidle : s.rasterIdle)
    (h : s.blocks.rasterFails e.rasterArgs = none)
    (hbegins : s.blocks.beginOperation ⟨r, (s.ring r).cls, e⟩ = (b, tasks)) (hsettles : Blocks.Settles k tasks b b')
    (hk : k ≤ 999) : s.takeRasterEntry r kind = (s.clearHandover r).putBlocks b' := by
  have htaken := Blocks.lodgeClaim_taken (b := s.blocks) (State.rasterIdle_service hidle)
    (State.rasterIdle_claims hidle) ⟨r, (s.ring r).cls, e⟩
  simp only [h, hbegins] at htaken
  rw [State.takeRasterEntry_of_waits hpart hwaits hkind,
    State.runBlocks_of_settles (s := s.clearHandover r) (by rfl) (.cons (by exact htaken) hsettles)
      (Nat.succ_le_succ hk)]

end

/-! ### The rows of the four kinds -/

/-- The four rows lodge their entry, whose operands are those of its kind. -/
theorem exec_raster {s : State} {r : RingId} {e : WorkEntry} {kind : Kind} {command : Instr}
    (hkind : e.kind = some kind) (h : (kind, command) ∈
      [(Kind.fill, Instr.fill r), (.copy, .copy r), (.expand, .expand r), (.text, .text r)]) :
    exec command s = .next (s.takeRasterEntry r kind) ∧ (kind = .fill ↔ e.rasterArgs.kind = .fill) ∧
      (kind = .copy ↔ e.rasterArgs.kind = .copy) ∧ (kind = .expand ↔ e.rasterArgs.kind = .expand) ∧
      (kind = .text ↔ e.rasterArgs.kind = .text) := by
  simp only [List.mem_cons, Prod.mk.injEq, List.not_mem_nil, or_false] at h
  rcases h with ⟨rfl, rfl⟩ | ⟨rfl, rfl⟩ | ⟨rfl, rfl⟩ | ⟨rfl, rfl⟩
  · refine ⟨rfl, ?_⟩
    simp [WorkEntry.rasterArgs, hkind, WorkEntry.fillArgs]
  · refine ⟨rfl, ?_⟩
    simp [WorkEntry.rasterArgs, hkind, WorkEntry.copyArgs]
  · refine ⟨rfl, ?_⟩
    simp [WorkEntry.rasterArgs, hkind, WorkEntry.expandArgs]
  · refine ⟨rfl, ?_⟩
    simp [WorkEntry.rasterArgs, hkind, WorkEntry.textArgs]

/-- A raster row in a part that neither runs nor resets changes nothing (R128). -/
theorem exec_raster_of_not_running {s : State} {r : RingId} {command : Instr}
    (h : command ∈ [Instr.fill r, .copy r, .expand r, .text r])
    (hpart : s.part = .halted ∨ s.part = .idle ∨ s.part = .loading) : exec command s = .next s := by
  have hquiet (kind : Kind) : s.takeRasterEntry r kind = s := by
    rw [State.takeRasterEntry_of_not_running (by rcases hpart with h | h | h <;> simp [h]),
      State.quiesce_eq (by rcases hpart with h | h | h <;> simp [h])]
  simp only [List.mem_cons, List.not_mem_nil, or_false] at h
  rcases h with rfl | rfl | rfl | rfl
  · exact congrArg Host.Outcome.next (hquiet .fill)
  · exact congrArg Host.Outcome.next (hquiet .copy)
  · exact congrArg Host.Outcome.next (hquiet .expand)
  · exact congrArg Host.Outcome.next (hquiet .text)

/-- Settles O48: each step of the validation by its own lemma. -/
theorem rasterEntriesAreValidatedInOrder : Obligations.RasterEntriesAreValidatedInOrder := by
  refine ⟨fun s r command hmem hpart => exec_raster_of_not_running hmem hpart, ?_⟩
  intro s r e kind command hpart hwaits hidle hkind hmem a fails reads operands dst src unset inRange coordinates
    source kindChecks
  obtain ⟨hexec, -, hcopy, hexpand, htext⟩ := exec_raster (s := s) hkind hmem
  have hoperands : operands ↔ a.operandsValid = true := by
    rw [RasterArgs.operandsValid_iff, ← hcopy, ← hexpand, ← htext]
  have hunset : unset ↔ s.blocks.Unset a := by
    rw [Blocks.Unset, ← hcopy, ← hexpand, ← htext]
    rfl
  have hcoordinates : coordinates ↔ a.coordinatesValid = true := by
    rw [RasterArgs.coordinatesValid_iff, ne_eq, ← htext]
  have hchecks (ho : operands) : kindChecks ↔ a.kindValid dst src = true := by
    rw [RasterArgs.kindValid_iff ho.2.2.2.1, ← hcopy, ← hexpand]
  have hfails {status : Status} (h : s.blocks.rasterFails a = some status) : fails status :=
    hexec.trans (congrArg _ (State.takeRasterEntry_fails hpart hwaits hkind hidle h))
  have hset (ho : operands) (hu : ¬unset) :=
    Blocks.rasterFails_of_set (b := s.blocks) (hoperands.mp ho) (mt hunset.mpr hu)
  refine ⟨fun ho => hfails (Blocks.rasterFails_of_operands (mt hoperands.mpr ho)),
    fun ho hu => hfails (Blocks.rasterFails_of_unset (hoperands.mp ho) (hunset.mp hu)),
    fun ho hu hc => hfails ((hset ho hu).trans (if_pos ?_)),
    fun ho hu hc hk => hfails ((hset ho hu).trans ((if_neg ?_).trans (if_pos ?_))),
    fun ho hu hc hk => (hset ho hu).trans ((if_neg ?_).trans (if_neg ?_))⟩
  · simpa using mt hcoordinates.mpr hc
  · simpa using hcoordinates.mp hc
  · simpa using mt (hchecks ho).mpr hk
  · simpa using hcoordinates.mp hc
  · simpa using (hchecks ho).mp hk

end Sys2Proof.Machine
end


section
/-! PROOFS. The beginning of a drawing operation (sections 6.2 and 6.4): raster-use marks, the end of an operation,
and the first place of the rectangle. -/

namespace Sys2Proof.Machine

/-! ### Raster-use marks (R98) -/

/-- The Surface Table with the marks of two named surfaces set or cleared. -/
def markedSurfaces (v : Vector Surface 16) (x y : Option SurfaceId) (m : Bool) : Vector Surface 16 :=
  Vector.ofFn fun n => { v[n] with mark := if x = some n ∨ y = some n then m else v[n].mark }

section

variable (v : Vector Surface 16) (x y : Option SurfaceId) (m : Bool)

theorem markedSurfaces_get (n : SurfaceId) : (markedSurfaces v x y m)[n.1] =
    { v[n.1] with mark := if x = some n ∨ y = some n then m else v[n.1].mark } := by
  simp [markedSurfaces]

theorem Blocks.setMark_setMark (b : Blocks) :
    (b.setMark x m).setMark y m = { b with surfaces := markedSurfaces b.surfaces x y m } := by
  obtain ⟨v, hmarks, hv⟩ := b.setMark_spec x y m
  have hsame : v = markedSurfaces b.surfaces x y m :=
    Vector.ext fun i hi => (hv ⟨i, hi⟩).trans (markedSurfaces_get _ _ _ _ ⟨i, hi⟩).symm
  rw [hmarks, hsame]

/-- Marks that are set and cleared again leave a table without marks as it was. -/
theorem markedSurfaces_cleared (h : ∀ n : SurfaceId, v[n.1].mark = false) :
    markedSurfaces (markedSurfaces v x y true) x y false = v := by
  have hself (k : Surface) (m : Bool) (hk : k.mark = m) : { k with mark := m } = k := by
    subst hk
    rfl
  refine Vector.ext fun i hi => ?_
  refine (markedSurfaces_get _ x y false ⟨i, hi⟩).trans ?_
  rw [markedSurfaces_get v x y true ⟨i, hi⟩]
  refine hself v[i] _ ?_
  by_cases hnamed : x = some ⟨i, hi⟩ ∨ y = some ⟨i, hi⟩
  · simpa [hnamed] using h ⟨i, hi⟩
  · simp [hnamed]

/-- The clearing of the marks of an operation, surface by surface. -/
theorem markedSurfaces_false_get (n : SurfaceId) : (markedSurfaces v x y false)[n] =
    { v[n] with mark := v[n].mark && !decide (x = some n ∨ y = some n) } := by
  rw [Fin.getElem_fin, markedSurfaces_get]
  by_cases h : x = some n ∨ y = some n <;> simp [h]

/-- Marks bar changes of a surface, and are none. -/
theorem Blocks.surface_marked (b : Blocks) (z : Option SurfaceId) :
    ∃ mark, ({ b with surfaces := markedSurfaces b.surfaces x y m } : Blocks).surface z =
      { b.surface z with mark := mark } := by
  cases z with
  | none => exact ⟨Surface.none.mark, rfl⟩
  | some n => exact ⟨_, markedSurfaces_get b.surfaces x y m n⟩

end

/-! ### The end of an operation (R115) -/

namespace Blocks

theorem endOperation_eq (b : Blocks) (c : Claim) (a : Answer) : b.endOperation c a =
    (({ b with
        surfaces := markedSurfaces b.surfaces c.entry.rasterArgs.dst c.entry.rasterArgs.src false
        raster := { RasterEngine.idle with claims := b.raster.claims, lostReads := b.raster.lostReads } }).answer
      c.ring a, [.rasterTake]) := by
  simp only [endOperation, setMark_setMark]

/-- Without claims the engine stays IDLE at the end of an operation. -/
theorem Settles.rasterTake {b : Blocks} (h : b.raster.claims = []) : Settles 1 [.rasterTake] b b := by
  intro n hn
  obtain ⟨m, rfl⟩ := Nat.exists_eq_add_of_le' hn
  exact settle_rasterTake m h

end Blocks

/-! ### The places of the working order (R112, R113) -/

namespace Work

variable {k : Work}

theorem destTransfer_eq (r c : Nat) (v : Byte) : k.destTransfer r c v =
    { kind := if k.mix = .replace ∧ 8 ≤ k.dst.depth then .destWrite v else .destRead v, space := k.dst.space,
      addr := k.dst.pixelAddr (k.column c) (k.row r) } := by
  have hreads : (k.mix.readsDestination || decide (k.dst.depth < 8)) = true ↔ ¬(k.mix = .replace ∧ 8 ≤ k.dst.depth) := by
    cases k.mix <;> simp [Mix.readsDestination]
  unfold destTransfer
  by_cases h : k.mix = .replace ∧ 8 ≤ k.dst.depth
  · rw [if_pos h, if_neg (by simpa only [hreads, not_not] using h)]
  · rw [if_neg h, if_pos (hreads.mpr h)]

/-- The first place of a row is the column that no other column of the area comes before. -/
theorem column_zero_of_extremal {x : Nat} (hx : k.area.x0 ≤ x ∧ x < k.area.x0 + k.area.columns)
    (h : ∀ x', k.area.x0 ≤ x' ∧ x' < k.area.x0 + k.area.columns → if k.rightToLeft then x' ≤ x else x ≤ x') :
    k.column 0 = x := by
  unfold column
  cases hdir : k.rightToLeft with
  | true =>
    have hlast := h (k.area.x0 + (k.area.columns - 1)) (by omega)
    rw [if_pos hdir] at hlast
    rw [if_pos rfl]
    omega
  | false =>
    have hfirst := h k.area.x0 (by omega)
    rw [if_neg (by simp [hdir])] at hfirst
    rw [if_neg (by simp)]
    omega

/-- The first row is the one that no other row of the area comes before. -/
theorem row_zero_of_extremal {y : Nat} (hy : k.area.y0 ≤ y ∧ y < k.area.y0 + k.area.rows)
    (h : ∀ y', k.area.y0 ≤ y' ∧ y' < k.area.y0 + k.area.rows → if k.bottomToTop then y' ≤ y else y ≤ y') :
    k.row 0 = y := by
  unfold row
  cases hdir : k.bottomToTop with
  | true =>
    have hlast := h (k.area.y0 + (k.area.rows - 1)) (by omega)
    rw [if_pos hdir] at hlast
    rw [if_pos rfl]
    omega
  | false =>
    have hfirst := h k.area.y0 (by omega)
    rw [if_neg (by simp [hdir])] at hfirst
    rw [if_neg (by simp)]
    omega

theorem firstTransfer_of_fill (h : k.args.kind = .fill) (bits : Half) (r c : Nat) :
    k.firstTransfer bits r c = k.destTransfer r c (k.colour k.args.ink) := by
  rw [firstTransfer, h]

theorem firstTransfer_of_source (htext : k.args.kind ≠ .text) (hfill : k.args.kind ≠ .fill) (bits : Half) (r c : Nat) :
    k.firstTransfer bits r c =
    { kind := .sourceRead, space := k.src.space,
      addr := k.src.pixelAddr (k.sourceColumn (k.column c)) (k.sourceRow (k.row r)) } := by
  unfold firstTransfer
  cases h : k.args.kind <;> simp_all

theorem rowBits_of_no_bitmap (h : k.bitmap = none) (r : Nat) : k.rowBits r = 0 := by
  simp [rowBits, h]

end Work

namespace Blocks

variable {b : Blocks} {c : Claim}

/-- Outside TEXT the rectangle in hand is drawn from its first row place on, or has ended. -/
theorem drawRows_of_not_text (hkind : c.entry.rasterArgs.kind ≠ .text) (r : Nat) : b.drawRows c r =
    if 0 < (b.work c).area.rows - r ∧ 0 < (b.work c).area.columns then
      ({ b with raster := { b.raster with
          step := .drawing
          drawing := some ⟨r, 0, (b.work c).rowBits r,
            (b.work c).firstTransfer ((b.work c).rowBits r) r 0⟩ } }, [])
    else b.endOperation c .done := by
  have hends : b.endArea c = b.endOperation c .done := by
    unfold endArea
    cases h : c.entry.rasterArgs.kind <;> simp_all
  simp only [drawRows, Work.seekRow_eq (Work.wanted_of_not_text (k := b.work c) hkind)]
  by_cases hroom : 0 < (b.work c).area.rows - r ∧ 0 < (b.work c).area.columns
  · simp only [if_pos hroom]
  · simp only [if_neg hroom, hends]

/-- The blocks as a FILL, COPY or EXPAND begins: its surfaces marked, its rectangle in hand. -/
def begun (b : Blocks) (c : Claim) : Blocks :=
  { b with
    surfaces := markedSurfaces b.surfaces c.entry.rasterArgs.dst c.entry.rasterArgs.src true
    raster := { b.raster with step := .drawing, service := some c } }

theorem beginOperation_of_not_text (hkind : c.entry.rasterArgs.kind ≠ .text) :
    b.beginOperation c = (b.begun c).drawRows c 0 := by
  unfold beginOperation begun
  simp only [setMark_setMark]
  cases h : c.entry.rasterArgs.kind <;> simp_all

/-- TEXT captures the face metrics and reads its code list. -/
theorem beginOperation_of_text {f : FaceId} (hkind : c.entry.rasterArgs.kind = .text)
    (hface : c.entry.rasterArgs.face = some f) : b.beginOperation c =
    ({ b with
        surfaces := markedSurfaces b.surfaces c.entry.rasterArgs.dst c.entry.rasterArgs.src true
        raster := { b.raster with
          step := .readingList, service := some c
          metrics := ⟨b.glyph.faces[f].width, b.glyph.faces[f].height, b.glyph.faces[f].advance⟩
          codeRead := some ⟨c.entry.rasterArgs.listAddr.toNat, c.entry.rasterArgs.count * 2⟩ } }, []) := by
  unfold beginOperation
  simp only [setMark_setMark, hkind, hface]
  rfl

end Blocks

/-! ### The rectangle of FILL, COPY and EXPAND (R101, R119) -/

section

variable {b : Blocks} {c : Claim}

/-- The rectangle in hand rests on the surfaces bar their marks. -/
theorem Blocks.work_begun_surfaces : ∃ m m', ((b.begun c).work c).dst = { b.surface c.entry.rasterArgs.dst with mark := m } ∧
    ((b.begun c).work c).src = { b.surface c.entry.rasterArgs.src with mark := m' } := by
  obtain ⟨m, hdst⟩ := Blocks.surface_marked c.entry.rasterArgs.dst c.entry.rasterArgs.src true b c.entry.rasterArgs.dst
  obtain ⟨m', hsrc⟩ := Blocks.surface_marked c.entry.rasterArgs.dst c.entry.rasterArgs.src true b c.entry.rasterArgs.src
  exact ⟨m, m', hdst, hsrc⟩

theorem Blocks.work_area_of_not_text (hkind : c.entry.rasterArgs.kind ≠ .text) : (b.work c).area =
    admitted (b.surface c.entry.rasterArgs.dst).clip c.entry.rasterArgs.dx c.entry.rasterArgs.dy
      c.entry.rasterArgs.w c.entry.rasterArgs.h := by
  simp [Blocks.work, hkind]

end

theorem Blocks.operandsValid_of_valid {b : Blocks} {a : RasterArgs} (h : b.rasterFails a = none) :
    a.operandsValid = true := by
  by_contra hinvalid
  exact nomatch (Blocks.rasterFails_of_operands hinvalid).symm.trans h

/-- FILL and TEXT name no source surface. -/
theorem WorkEntry.rasterArgs_source {e : WorkEntry} {n : SurfaceId} (h : e.rasterArgs.src = some n) :
    e.rasterArgs.kind.hasSource = true := by
  unfold WorkEntry.rasterArgs at h ⊢
  split at h
  · rfl
  · rfl
  · nomatch h
  · nomatch h

/-- The orders of R119 are those of the entry's corners. -/
theorem Blocks.work_directions {b : Blocks} {c : Claim} {d : SurfaceId} (hdst : c.entry.rasterArgs.dst = some d) :
    ((b.work c).rightToLeft = true ↔ c.entry.rasterArgs.src = c.entry.rasterArgs.dst ∧
        (c.entry.rasterArgs.sx : Int) < c.entry.rasterArgs.dx) ∧
      ((b.work c).bottomToTop = true ↔ c.entry.rasterArgs.src = c.entry.rasterArgs.dst ∧
        (c.entry.rasterArgs.sy : Int) < c.entry.rasterArgs.dy) := by
  have hsource (h : c.entry.rasterArgs.src = c.entry.rasterArgs.dst) : c.entry.rasterArgs.kind.hasSource = true :=
    WorkEntry.rasterArgs_source (h.trans hdst)
  simp only [Blocks.work, Bool.and_eq_true, decide_eq_true_eq, beq_iff_eq]
  exact ⟨⟨fun h => ⟨h.1.2, h.2⟩, fun h => ⟨⟨hsource h.1, h.1⟩, h.2⟩⟩,
    ⟨fun h => ⟨h.1.2, h.2⟩, fun h => ⟨⟨hsource h.1, h.1⟩, h.2⟩⟩⟩

/-- Settles O49: no admitted pixel ends the operation in the handling that begins it; otherwise the first place of
the working order is the extremal admitted pixel. -/
theorem rasterEntriesBeginTheirOperation : Obligations.RasterEntriesBeginTheirOperation := by
  intro s r e kind command d hpart hwaits hidle hkind hmem hvalid hmarks hdst a dst src begun admits
  obtain ⟨hexec, hfill, hcopy, hexpand, htext⟩ := exec_raster (s := s) hkind hmem
  have hbegins {b : Blocks} {tasks : List Task} {k : Nat} {b' : Blocks}
      (h : s.blocks.beginOperation ⟨r, (s.ring r).cls, e⟩ = (b, tasks)) (hsettles : Blocks.Settles k tasks b b')
      (hk : k ≤ 999) : exec command s = .next ((s.clearHandover r).putBlocks b') :=
    hexec.trans (congrArg _ (State.takeRasterEntry_begins hpart hwaits hkind hidle hvalid h hsettles hk))
  have hdst' : s.blocks.surface a.dst = dst := by rw [hdst]; rfl
  have hmarked (n : SurfaceId) : (markedSurfaces s.surfaces a.dst a.src true)[n] =
      { s.surfaceAt n with mark := decide (n = d ∨ a.src = some n) } := by
    rw [Fin.getElem_fin, markedSurfaces_get, hdst, show s.surfaces[n.1].mark = false from hmarks n]
    by_cases hn : n = d ∨ a.src = some n <;> simp [hn, eq_comm (a := d), State.surfaceAt]
  set c : Claim := ⟨r, (s.ring r).cls, e⟩
  set k := (s.blocks.begun c).work c
  obtain ⟨m, m', hkdst, hksrc⟩ := Blocks.work_begun_surfaces (b := s.blocks) (c := c)
  rw [show s.blocks.surface c.entry.rasterArgs.dst = dst from hdst'] at hkdst
  change k.dst = _ at hkdst
  change k.src = _ at hksrc
  have hplace (hnot : kind ≠ .text) (x y : Nat) : admits x y ↔
      (k.area.x0 ≤ x ∧ x < k.area.x0 + k.area.columns) ∧ (k.area.y0 ≤ y ∧ y < k.area.y0 + k.area.rows) ∧
        0 < k.area.columns ∧ 0 < k.area.rows := by
    have harea : k.area = admitted k.dst.clip a.dx a.dy a.w a.h := Blocks.work_area_of_not_text (mt htext.mpr hnot)
    rw [hkdst] at harea
    rw [harea]
    exact mem_admitted ..
  refine ⟨fun hnot hempty => ?_, fun hnot x y hxy hfirst => ?_, fun f htxt hface => ?_⟩
  · have hends : s.blocks.beginOperation c = (s.blocks.begun c).endOperation c .done := by
      rw [Blocks.beginOperation_of_not_text (mt htext.mpr hnot), Blocks.drawRows_of_not_text (mt htext.mpr hnot),
        if_neg]
      rintro ⟨hrows, hcolumns⟩
      exact hempty k.area.x0 k.area.y0 ((hplace hnot _ _).mpr ⟨⟨le_rfl, Nat.lt_add_of_pos_right hcolumns⟩,
        ⟨le_rfl, Nat.lt_add_of_pos_right hrows⟩, hcolumns, hrows⟩)
    rw [Blocks.endOperation_eq] at hends
    rw [hbegins hends (Blocks.Settles.rasterTake (State.rasterIdle_claims hidle)) (by decide),
      State.putBlocks_answer hwaits _ (by rfl)]
    have hsurfaces : markedSurfaces (markedSurfaces s.surfaces a.dst a.src true) a.dst a.src false = s.surfaces :=
      markedSurfaces_cleared _ _ _ hmarks
    have hraster : { RasterEngine.idle with claims := s.raster.claims, lostReads := s.raster.lostReads } = s.raster := by
      rw [State.rasterIdle_claims hidle]
      exact hidle.symm
    show Host.Outcome.next ((((((s.withGlyph s.glyph).withLane s.lane).withRaster
      { RasterEngine.idle with claims := s.raster.claims, lostReads := s.raster.lostReads }).withSurfaces
        (markedSurfaces (markedSurfaces s.surfaces a.dst a.src true) a.dst a.src false))).answered r .done) = _
    rw [hraster, hsurfaces]
    rfl
  · intro colour u v sx sy transfer
    obtain ⟨hx, hy, hroom⟩ := (hplace hnot x y).mp hxy
    obtain ⟨hright, hbottom⟩ := Blocks.work_directions (b := s.blocks.begun c) (c := c) hdst
    have hcolumn : k.column 0 = x := Work.column_zero_of_extremal hx fun x' hx' => by
      rw [if_congr hright rfl rfl]
      exact (hfirst x' y ((hplace hnot _ _).mpr ⟨hx', hy, hroom⟩)).1
    have hrow : k.row 0 = y := Work.row_zero_of_extremal hy fun y' hy' => by
      rw [if_congr hbottom rfl rfl]
      exact (hfirst x y' ((hplace hnot _ _).mpr ⟨hx, hy', hroom⟩)).2
    have htransfer : k.firstTransfer 0 0 0 = transfer := by
      by_cases hf : kind = .fill
      · rw [Work.firstTransfer_of_fill (hfill.mp hf), Work.destTransfer_eq, hcolumn, hrow]
        have hmix : k.mix = .replace ↔ a.mix = some .replace := by
          obtain ⟨-, -, hmix, -⟩ := RasterArgs.operandsValid_iff.mp (Blocks.operandsValid_of_valid hvalid)
          obtain ⟨mix, hsome⟩ := Option.ne_none_iff_exists'.mp hmix
          show a.mix.getD .replace = .replace ↔ _
          simp [a, hsome]
        simp only [hmix, Work.colour, hkdst, transfer, if_pos hf]
        rfl
      · rw [Work.firstTransfer_of_source (mt htext.mpr hnot) (mt hfill.mpr hf), hcolumn, hrow]
        have hdx : k.dx = a.dx := if_neg (mt htext.mpr hnot)
        simp only [Work.sourceColumn, Work.sourceRow, hksrc, hdx, transfer, if_neg hf]
        rfl
    have hdraws := Blocks.beginOperation_of_not_text (b := s.blocks) (c := c) (mt htext.mpr hnot)
    rw [Blocks.drawRows_of_not_text (mt htext.mpr hnot), if_pos (by exact ⟨hroom.2, hroom.1⟩),
      Work.rowBits_of_no_bitmap (by
        show (s.raster.stamp.bind Stamp.slot).map _ = none
        rw [hidle]
        rfl), htransfer] at hdraws
    exact ⟨_, hbegins hdraws (.nil _) (by decide), hmarked⟩
  · refine ⟨_, hbegins (Blocks.beginOperation_of_text (htext.mp htxt) hface) (.nil _) (by decide), hmarked⟩

end Sys2Proof.Machine
end


section
/-! PROOFS. The drawing rules (sections 5.2, 5.7 and 6.4): packed pixels, mixes, scissor, keying and overlap. -/

namespace Sys2Proof.Machine

/-! ### Packed pixels (R91, R92) -/

section

variable {depth : Nat}

theorem depthMask_getLsbD (i : Nat) : (depthMask depth).getLsbD i = decide (i < 8 ∧ i < depth) := by
  rw [depthMask, BitVec.getLsbD_ofNat, Nat.testBit_two_pow_sub_one]
  simp

theorem depthMask_toNat (h : depth ≤ 8) : (depthMask depth).toNat = 2 ^ depth - 1 := by
  have hpow : 2 ^ depth ≤ 2 ^ 8 := Nat.pow_le_pow_right (by decide) h
  rw [depthMask, BitVec.toNat_ofNat, Nat.mod_eq_of_lt (by omega)]

/-- A pixel of a depth that divides 8 lies in one byte. -/
theorem pixel_in_byte (h : depth = 1 ∨ depth = 2 ∨ depth = 4 ∨ depth = 8) (x : Nat) : x * depth % 8 + depth ≤ 8 := by
  rcases h with rfl | rfl | rfl | rfl <;> omega

variable (x : Nat) (byte value : Byte)

theorem pixelOf_getLsbD (i : Nat) : (pixelOf depth x byte).getLsbD i =
    (byte.getLsbD (pixelShift depth x + i) && decide (i < 8 ∧ i < depth)) := by
  rw [pixelOf, BitVec.getLsbD_and, BitVec.getLsbD_ushiftRight, depthMask_getLsbD]

theorem pixelOf_toNat_lt (h : depth ≤ 8) : (pixelOf depth x byte).toNat < 2 ^ depth := by
  have hmask := depthMask_toNat h
  have hle : (pixelOf depth x byte).toNat ≤ (depthMask depth).toNat := by
    rw [pixelOf, BitVec.toNat_and]
    exact Nat.and_le_right
  have hpos : 0 < 2 ^ depth := Nat.two_pow_pos depth
  omega

/-- Writing a pixel takes the bits of the pixel from the value, and every other bit from the byte. -/
theorem insertPixel_getLsbD (i : Nat) (hi : i < 8) : (insertPixel depth x byte value).getLsbD i =
    if pixelShift depth x ≤ i ∧ i < pixelShift depth x + depth then value.getLsbD (i - pixelShift depth x)
    else byte.getLsbD i := by
  simp only [insertPixel, BitVec.getLsbD_or, BitVec.getLsbD_and, BitVec.getLsbD_not, BitVec.getLsbD_shiftLeft,
    depthMask_getLsbD]
  by_cases hshift : pixelShift depth x ≤ i
  · by_cases hlast : i < pixelShift depth x + depth
    · simp [hi, hshift, hlast, show ¬i < pixelShift depth x by omega, show i - pixelShift depth x < 8 by omega,
        show i - pixelShift depth x < depth by omega]
    · simp [hi, hshift, hlast, show ¬i - pixelShift depth x < depth by omega]
  · simp [hi, hshift, show i < pixelShift depth x by omega]

end

/-! ### Mixes (R111) -/

theorem Mix.invert_toNat {depth : Nat} (h : depth ≤ 8) (v d : Byte) (hd : d.toNat < 2 ^ depth) :
    (Mix.invert.value depth v d).toNat = 2 ^ depth - 1 - d.toNat := by
  have hmask := depthMask_toNat h
  have hle : d ≤ depthMask depth := by
    rw [BitVec.le_def]
    omega
  rw [Mix.value, BitVec.toNat_sub_of_le hle, hmask]

theorem Mix.addSat_toNat {depth : Nat} (h : depth ≤ 8) (v d : Byte) :
    (Mix.addSat.value depth v d).toNat = min (v.toNat + d.toNat) (2 ^ depth - 1) := by
  have hpow : 2 ^ depth ≤ 2 ^ 8 := Nat.pow_le_pow_right (by decide) h
  have hpos : 0 < 2 ^ depth := Nat.two_pow_pos depth
  rw [Mix.value, BitVec.toNat_ofNat, Nat.mod_eq_of_lt (by omega)]

/-! ### The scissor (R101) -/

theorem mem_area_iff (clip : Clip) (dx dy : Int) (w h x y : Nat) :
    ((((admitted (some clip) dx dy w h).x0 ≤ x ∧
            x < (admitted (some clip) dx dy w h).x0 + (admitted (some clip) dx dy w h).columns) ∧
          ((admitted (some clip) dx dy w h).y0 ≤ y ∧
            y < (admitted (some clip) dx dy w h).y0 + (admitted (some clip) dx dy w h).rows)) ∧
        0 < (admitted (some clip) dx dy w h).columns ∧ 0 < (admitted (some clip) dx dy w h).rows) ↔
      ((clip.x0 ≤ x ∧ x ≤ clip.x1) ∧ (clip.y0 ≤ y ∧ y ≤ clip.y1)) ∧
        (dx ≤ x ∧ x < dx + w) ∧ (dy ≤ y ∧ y < dy + h) := by
  have hmem := mem_admitted (some clip) dx dy w h x y
  simp only [Option.some.injEq, exists_eq_left'] at hmem
  constructor
  · intro h
    have := hmem.mpr ⟨h.1.1, h.1.2, h.2⟩
    omega
  · intro h
    have := hmem.mp (by omega)
    exact ⟨⟨this.1, this.2.1⟩, this.2.2⟩

/-- An area that admits a pixel lies inside its rectangle. -/
theorem admitted_inside {clip : Option Clip} {dx dy : Int} {w h : Nat} (hcolumns : 0 < (admitted clip dx dy w h).columns)
    (hrows : 0 < (admitted clip dx dy w h).rows) :
    dx ≤ (admitted clip dx dy w h).x0 ∧ dy ≤ (admitted clip dx dy w h).y0 := by
  have hmem := (mem_admitted clip dx dy w h (admitted clip dx dy w h).x0 (admitted clip dx dy w h).y0).mpr
    ⟨⟨le_rfl, by omega⟩, ⟨le_rfl, by omega⟩, hcolumns, hrows⟩
  exact ⟨hmem.1.1, hmem.2.1.1⟩

/-! ### Keying and paper clear (R118, R120) -/

theorem Work.sourceValue_of_copy {k : Work} (h : k.args.kind = .copy) (c : Nat) (byte : Byte) :
    k.sourceValue c byte =
      if k.args.keyed = some true ∧
          pixelOf k.src.depth (k.sourceColumn (k.column c)) byte = k.args.ink &&& depthMask k.dst.depth then none
      else some (pixelOf k.src.depth (k.sourceColumn (k.column c)) byte) := by
  simp only [Work.sourceValue, h, Work.colour] <;> rfl

theorem Work.sourceValue_of_expand {k : Work} (h : k.args.kind = .expand) (c : Nat) (byte : Byte) :
    k.sourceValue c byte =
      if pixelOf k.src.depth (k.sourceColumn (k.column c)) byte = 1 then some (k.args.ink &&& depthMask k.dst.depth)
      else if k.args.paperClear = some true then none else some (k.args.paper &&& depthMask k.dst.depth) := by
  simp only [Work.sourceValue, h, Work.colour]

/-! ### Where source and destination are one surface (R119) -/

namespace Work

variable {k : Work}

/-- Columns are drawn against the shift from source to destination, so that a column drawn is not read any more. -/
theorem column_ne_sourceColumn {p p' : Nat} (hwrap : k.args.wrap = some false)
    (hdirection : k.rightToLeft = true ↔ (k.args.sx : Int) < k.dx) (hleft : k.dx ≤ k.area.x0)
    (hp : p < p') (hp' : p' < k.area.columns) : k.sourceColumn (k.column p') ≠ k.column p := by
  have hsource (x : Nat) : k.sourceColumn x = k.args.sx + ((x : Int) - k.dx).toNat := by simp [sourceColumn, hwrap]
  rw [hsource]
  unfold column
  by_cases hshift : (k.args.sx : Int) < k.dx
  · rw [if_pos (hdirection.mpr hshift), if_pos (hdirection.mpr hshift)]
    omega
  · rw [if_neg (mt hdirection.mp hshift), if_neg (mt hdirection.mp hshift)]
    omega

/-- The same of rows. -/
theorem row_ne_sourceRow {r r' : Nat} (hwrap : k.args.wrap = some false)
    (hdirection : k.bottomToTop = true ↔ (k.args.sy : Int) < k.dy) (htop : k.dy ≤ k.area.y0)
    (hr : r < r') (hr' : r' < k.area.rows) : k.sourceRow (k.row r') ≠ k.row r := by
  have hsource (y : Nat) : k.sourceRow y = k.args.sy + ((y : Int) - k.dy).toNat := by simp [sourceRow, hwrap]
  rw [hsource]
  unfold row
  by_cases hshift : (k.args.sy : Int) < k.dy
  · rw [if_pos (hdirection.mpr hshift), if_pos (hdirection.mpr hshift)]
    omega
  · rw [if_neg (mt hdirection.mp hshift), if_neg (mt hdirection.mp hshift)]
    omega

end Work

/-- Settles O52: the bits of a packed pixel one by one, and the order of R119 against the shift of the copy. -/
theorem drawingRulesOfPixels : Obligations.DrawingRulesOfPixels := by
  refine ⟨?_, ?_, fun clip dx dy w h x y => mem_area_iff clip dx dy w h x y, ?_, ?_⟩
  · intro depth x byte value hdepth first
    have hbyte : first + depth ≤ 8 := pixel_in_byte hdepth x
    have hshift : pixelShift depth x = 8 - depth - first := rfl
    refine ⟨fun j hj => ?_, pixelOf_toNat_lt x byte (by omega), fun j hj => ?_, fun i hi hout => ?_⟩
    · rw [BitVec.getMsbD, BitVec.getMsbD, pixelOf_getLsbD, hshift]
      have hplace : 8 - depth - first + (8 - 1 - (8 - depth + j)) = 8 - 1 - (first + j) := by omega
      rw [hplace]
      simp [show 8 - depth + j < 8 by omega, show first + j < 8 by omega, show 7 - (8 - depth + j) < depth by omega]
      omega
    · rw [BitVec.getMsbD, BitVec.getMsbD, insertPixel_getLsbD _ _ _ _ (by omega), if_pos (by omega), hshift]
      have hplace : 8 - 1 - (first + j) - (8 - depth - first) = 8 - 1 - (8 - depth + j) := by omega
      rw [hplace]
      simp [show 8 - depth + j < 8 by omega, show first + j < 8 by omega]
    · rw [BitVec.getMsbD, BitVec.getMsbD, insertPixel_getLsbD _ _ _ _ (by omega), if_neg (by omega)]
  · intro depth v d _ hdepth hv hd
    exact ⟨rfl, rfl, rfl, rfl, Mix.invert_toNat hdepth v d hd, Mix.addSat_toNat hdepth v d⟩
  · intro k p byte v mask
    refine ⟨fun hkind hkeyed hv => ?_, fun hkind hkeyed hv => ?_, fun hkind hkeyed => ?_, fun hkind hv => ?_,
      fun hkind hv hclear => ?_, fun hkind hv hclear => ?_⟩
    · exact (Work.sourceValue_of_copy hkind p byte).trans (if_pos ⟨hkeyed, hv⟩)
    · exact (Work.sourceValue_of_copy hkind p byte).trans (if_neg fun h => hv h.2)
    · exact (Work.sourceValue_of_copy hkind p byte).trans (if_neg fun h => by simp [hkeyed] at h)
    · exact (Work.sourceValue_of_expand hkind p byte).trans (if_pos hv)
    · exact (Work.sourceValue_of_expand hkind p byte).trans ((if_neg hv).trans (if_neg (by simp [hclear])))
    · exact (Work.sourceValue_of_expand hkind p byte).trans ((if_neg hv).trans (if_pos hclear))
  · intro b c r p r' p' k a hkind hsame hwrap hr' hp hp' hbefore hread
    have hnot : a.kind ≠ .text := by rcases hkind with h | h <;> simp [h]
    have hsource : a.kind.hasSource = true := RasterArgs.hasSource_iff.mpr hkind
    have hdx : k.dx = a.dx := if_neg hnot
    have harea : k.area = admitted k.dst.clip a.dx a.dy a.w a.h := Blocks.work_area_of_not_text hnot
    obtain ⟨hleft, htop⟩ : k.dx ≤ k.area.x0 ∧ k.dy ≤ k.area.y0 := by
      rw [hdx, harea]
      rw [harea] at hp hr'
      exact admitted_inside (Nat.zero_lt_of_lt hp) (Nat.zero_lt_of_lt hr')
    have hright : k.rightToLeft = true ↔ (k.args.sx : Int) < k.dx := by
      rw [hdx]
      show (a.kind.hasSource && a.src == a.dst && _) = true ↔ _
      simp [hsource, hsame]
      rfl
    have hbottom : k.bottomToTop = true ↔ (k.args.sy : Int) < k.dy := by
      show (a.kind.hasSource && a.src == a.dst && _) = true ↔ _
      simp [hsource, hsame]
      rfl
    rcases hbefore with hrow | ⟨rfl, hcolumn⟩
    · exact Work.row_ne_sourceRow hwrap hbottom htop hrow hr' hread.2
    · exact Work.column_ne_sourceColumn hwrap hright hleft hcolumn hp' hread.1

end Sys2Proof.Machine
end


section
/-! PROOFS. The composition of a frame (sections 3.7, 4.6 and 4.10): the pixels of a lane's window, the lanes over the
background, and the rows that go out. -/

namespace Sys2Proof.Machine

/-! ### The rows (R89) -/

theorem State.panelRows_of_no_frame {s : State} (h : s.frame = none) : s.panelRows = [] := by
  rw [State.panelRows, h]

theorem State.panelRows_of_frame {s : State} {f : Frame} (h : s.frame = some f) : s.panelRows =
    (List.range s.presentation.panelHeight).map (f.row s.frameMemory s.presentation.panelWidth) := by
  rw [State.panelRows, h]

/-- Each row goes out with the pixels that the panel shows in it. -/
theorem State.panelRows_row {s : State} {f : Frame} (hf : s.frame = some f) {py : Nat} {row : List Byte}
    (h : s.panelRows[py]? = some row) : row.length = s.presentation.panelWidth ∧
      ∀ px < s.presentation.panelWidth, row[px]? = s.panelPixel px py := by
  rw [State.panelRows_of_frame hf, List.getElem?_map, Option.map_eq_some_iff] at h
  obtain ⟨y, hy, rfl⟩ := h
  obtain ⟨hrow, hplace⟩ := List.getElem?_eq_some_iff.mp hy
  obtain rfl : py = y := by simpa using hplace
  rw [List.length_range] at hrow
  refine ⟨by simp [Frame.row], fun px hpx => ?_⟩
  rw [State.panelPixel_of_frame hf hpx hrow, Frame.row, List.getElem?_map, List.getElem?_range hpx]
  rfl

/-! ### The lanes over the background (R85) -/

namespace Frame

variable {f : Frame} {k : Lane} {px py : Nat}

/-- A lane draws a value at a panel pixel. -/
def Draws (f : Frame) (k : Lane) (px py : Nat) (v : Byte) : Prop :=
  k.state = .set ∧ k.visibility = .shown ∧ (k.settings.x ≤ px ∧ px < k.settings.x + k.settings.w) ∧
    (k.settings.y ≤ py ∧ py < k.settings.y + k.settings.h) ∧
    f.windowPixel k (px - k.settings.x) (py - k.settings.y) = some v

theorem overlay_of_draws {v : Byte} (h : f.Draws k px py v) (below : Byte) : f.overlay k px py below = v := by
  obtain ⟨hset, hshown, hx, hy, hv⟩ := h
  unfold overlay
  rw [if_pos ⟨hset, hshown, hx, hy⟩, hv]
  rfl

theorem overlay_of_not_draws (h : ∀ v, ¬f.Draws k px py v) (below : Byte) : f.overlay k px py below = below := by
  unfold overlay
  dsimp only
  split
  next hwindow =>
    obtain ⟨hset, hshown, hx, hy⟩ := hwindow
    cases hv : f.windowPixel k (px - k.settings.x) (py - k.settings.y) with
    | none => rfl
    | some v => exact absurd ⟨hset, hshown, hx, hy, hv⟩ (h v)
  next => rfl

/-- Lanes that draw nothing at a pixel keep what is below them. -/
theorem foldl_overlay_of_not_draws (lanes : List Lane) (h : ∀ k ∈ lanes, ∀ v, ¬f.Draws k px py v) (below : Byte) :
    lanes.foldl (fun below k => f.overlay k px py below) below = below := by
  refine List.foldlRecOn (motive := (· = below)) _ _ rfl fun b hb k hk => ?_
  exact (overlay_of_not_draws (h k hk) b).trans hb

theorem pixel_of_not_draws (m : Memory) (h : ∀ (l : LaneId) (v : Byte), ¬f.Draws f.lanes[l] px py v) :
    f.pixel m px py = f.backgroundPixel m px py := by
  refine foldl_overlay_of_not_draws _ (fun k hk => ?_) _
  obtain ⟨i, hi, rfl⟩ := Vector.mem_iff_getElem.mp (Vector.mem_toList_iff.mp hk)
  exact h ⟨i, hi⟩

/-- The highest-numbered lane that draws at a pixel gives it its value. -/
theorem pixel_of_draws (m : Memory) {l : LaneId} {v : Byte} (hdraws : f.Draws f.lanes[l] px py v)
    (habove : ∀ (n : LaneId) (v' : Byte), l < n → ¬f.Draws f.lanes[n] px py v') : f.pixel m px py = v := by
  have hlength : l.1 < f.lanes.toList.length := by simp
  have hsplit : f.lanes.toList = f.lanes.toList.take l ++ f.lanes[l] :: f.lanes.toList.drop (l + 1) := by
    conv_lhs => rw [← List.take_append_drop l.1 f.lanes.toList, List.drop_eq_getElem_cons hlength]
    simp
  rw [pixel, hsplit, List.foldl_append, List.foldl_cons, overlay_of_draws hdraws]
  refine foldl_overlay_of_not_draws _ (fun k hk => ?_) v
  obtain ⟨i, hi, rfl⟩ := List.mem_drop_iff_getElem.mp hk
  have hrange : l.1 + 1 + i < 8 := by
    rw [Vector.length_toList] at hi
    omega
  intro v'
  simpa using habove ⟨l.1 + 1 + i, hrange⟩ v' (Fin.lt_def.mpr (by simp; omega))

end Frame

/-! ### The pixels of a lane's window (R68 to R70) -/

namespace Lane

variable {k : Lane} {advance c : Nat}

theorem contentPosition_of_fixed (h : k.settings.mode = .fixed) : k.contentPosition advance c = some (c + k.offset) := by
  rw [contentPosition, h]

theorem contentPosition_of_moving (h : k.settings.mode ≠ .fixed) : k.contentPosition advance c =
    if k.cycle advance = 0 then Option.none else some ((c + k.offset) % k.cycle advance) := by
  unfold contentPosition
  cases hmode : k.settings.mode <;> simp_all

theorem cellAtColumn_of_none (h : k.contentPosition advance c = Option.none) : k.cellAtColumn advance c = Option.none := by
  rw [cellAtColumn, h]

theorem cellAtColumn_of_some {p : Nat} (h : k.contentPosition advance c = some p) : k.cellAtColumn advance c =
    if p < k.textWidth advance then (k.cells[p / advance]?).map fun cell => (cell, p % advance) else Option.none := by
  rw [cellAtColumn, h]

end Lane

namespace Frame

variable {f : Frame} {k : Lane} {c r : Nat}

/-- What a lane draws where it draws no ink (R70). -/
def paperOf (k : Lane) : Option Byte := if k.settings.paperClear then none else some k.settings.paper

theorem windowPixel_of_no_cell (h : k.cellAtColumn f.faces[k.settings.face].advance c = none) :
    f.windowPixel k c r = paperOf k := by
  simp only [windowPixel, h, paperOf]

theorem windowPixel_of_cell {cell : TextCell} {u : Nat}
    (h : k.cellAtColumn f.faces[k.settings.face].advance c = some (cell, u)) : f.windowPixel k c r =
      if f.inkRole f.faces[k.settings.face] cell ((r : Int) - k.settings.verticalOffset) u then
        some (if cell.highlight then k.settings.altInk else k.settings.ink)
      else paperOf k := by
  simp only [windowPixel, h, paperOf]

/-- Class 0 is always ON; class b + 1 is in the phase of blink class b (R67). -/
theorem phaseOf_off_iff (blink : BitVec 2) :
    f.phaseOf blink = .off ↔ ∃ b : BlinkId, blink.toNat = b.1 + 1 ∧ f.phases[b] = .off := by
  have hlt := blink.isLt
  unfold phaseOf
  split
  next h0 =>
    subst h0
    simp
  next h0 =>
    have hpos : blink.toNat ≠ 0 := fun h => h0 (BitVec.eq_of_toNat_eq h)
    have hclass : blink.toNat - 1 < 3 := by omega
    have hphase : f.phases.toArray.getD (blink.toNat - 1) .on = f.phases[blink.toNat - 1] := by
      simp [Array.getD, hclass]
    rw [hphase]
    constructor
    · intro h
      exact ⟨⟨blink.toNat - 1, hclass⟩, by simp; omega, h⟩
    · rintro ⟨b, hb, h⟩
      have hsame : blink.toNat - 1 = b.1 := by omega
      simp only [hsame]
      exact h

/-- The glyph's bits are those of its slot's bitmap inside the glyph box (R69). -/
theorem glyphBit_iff {face : Face} {cell : TextCell} {offset u : Nat} :
    f.glyphBit face cell ((r : Int) - offset) u = true ↔
      ∃ (n : SlotId) (row : Fin 32), cell.slot = some n ∧ row.1 + offset = r ∧ row.1 < face.height ∧
        u < min face.width face.advance ∧ (f.bitmaps[n][row]).getMsbD u = true := by
  unfold glyphBit
  cases hslot : cell.slot with
  | none => simp
  | some n =>
    simp only [Bool.and_eq_true, decide_eq_true_eq, Option.some.injEq]
    constructor
    · rintro ⟨⟨⟨hrow, hheight⟩, hu⟩, hbit⟩
      by_cases hlt : r - offset < 32
      · refine ⟨n, ⟨r - offset, hlt⟩, rfl, ?_, ?_, hu, ?_⟩
        · simp
          omega
        · simp
          omega
        · have hplace : ((r : Int) - offset).toNat = r - offset := by omega
          rw [hplace] at hbit
          simpa [Array.getD, hlt] using hbit
      · have hplace : ¬((r : Int) - offset).toNat < 32 := by omega
        simp [Array.getD, show ¬r - offset < 32 from hlt] at hbit
    · rintro ⟨n', row, rfl, hrow, hheight, hu, hbit⟩
      have hplace : ((r : Int) - offset).toNat = row.1 := by omega
      refine ⟨⟨⟨by omega, by omega⟩, hu⟩, ?_⟩
      rw [hplace]
      simpa [Array.getD] using hbit

theorem inkRole_iff {face : Face} {cell : TextCell} {row : Int} {u : Nat} :
    f.inkRole face cell row u = true ↔
      cell.slot ≠ none ∧ ¬f.phaseOf cell.blink = .off ∧ (cell.inverse = false ↔ f.glyphBit face cell row u = true) := by
  unfold inkRole
  cases hslot : cell.slot with
  | none => simp
  | some n => 
    by_cases hoff : f.phaseOf cell.blink = .off
    · simp [hoff]
    · cases hinverse : cell.inverse <;> simp [hoff]

end Frame

/-- Settles O59: rows by the panel's pixels, pixels by the highest lane that draws, and a lane's pixels by the cell at
the content position. -/
theorem lanesAreComposedOverTheBackground : Obligations.LanesAreComposedOverTheBackground := by
  refine ⟨fun s => ⟨State.panelRows_of_no_frame, fun hframe => ?_⟩, ?_, ?_⟩
  · obtain ⟨f, hf⟩ := Option.ne_none_iff_exists'.mp hframe
    exact ⟨by simp [State.panelRows_of_frame hf], fun py row h => State.panelRows_row hf h⟩
  · intro s f px py hf hx hy draws
    refine ⟨fun l v hdraws habove => ?_, fun hnone => ?_⟩
    · rw [State.panelPixel_of_frame hf hx hy, Frame.pixel_of_draws s.frameMemory hdraws habove]
    · rw [State.panelPixel_of_frame hf hx hy, Frame.pixel_of_not_draws s.frameMemory hnone]
  · intro f k c r face w cycle paper
    refine ⟨fun hmode hcycle => Frame.windowPixel_of_no_cell (Lane.cellAtColumn_of_none
      ((Lane.contentPosition_of_moving hmode).trans (if_pos hcycle))), fun position hposition => ?_⟩
    have hcontent : k.contentPosition face.advance c = some position := by
      rcases hposition with ⟨hmode, rfl⟩ | ⟨hmode, hcycle, rfl⟩
      · exact Lane.contentPosition_of_fixed hmode
      · exact (Lane.contentPosition_of_moving hmode).trans (if_neg hcycle.ne')
    refine ⟨fun hout => Frame.windowPixel_of_no_cell ((Lane.cellAtColumn_of_some hcontent).trans
      (if_neg (Nat.not_lt.mpr hout))), ?_⟩
    intro cell hcell hin column blinkedOff bit ink _
    have hwindow := Frame.windowPixel_of_cell (r := r) (f := f) (k := k) (c := c) (cell := cell) (u := column)
      ((Lane.cellAtColumn_of_some hcontent).trans ((if_pos hin).trans (by rw [hcell]; rfl)))
    have hink : f.inkRole face cell ((r : Int) - k.settings.verticalOffset) column = true ↔ ink := by
      rw [Frame.inkRole_iff, Frame.phaseOf_off_iff, Frame.glyphBit_iff]
    exact ⟨fun h => hwindow.trans (if_pos (hink.mpr h)), fun h => hwindow.trans (if_neg (mt hink.mp h))⟩

end Sys2Proof.Machine
end


section
/-! PROOFS. The buffer arbiter and the report writer (sections 8.3 to 8.5). A grant takes the head of the waiting
reports, a write that starts keeps the sequence of the entries taken, and the grants end with nothing left to take. -/

namespace Sys2Proof.Machine

/-! ### Taking two lists turn about -/

/-- What is taken first comes from the first list, and then it is the second list's turn. -/
theorem alternate_cons {α : Type} (x : α) (xs ys : List α) : alternate (x :: xs) ys = x :: alternate ys xs := by
  induction ys generalizing x xs with
  | nil => rfl
  | cons y ys ih =>
    cases xs with
    | nil => rfl
    | cons x' xs => rw [alternate, alternate, ih]

theorem alternate_nil_right {α : Type} (xs : List α) : alternate xs [] = xs := by
  cases xs <;> rfl

theorem length_alternate {α : Type} (xs ys : List α) : (alternate xs ys).length = xs.length + ys.length := by
  induction xs generalizing ys with
  | nil => simp [alternate]
  | cons x xs ih =>
    cases ys with
    | nil => rfl
    | cons y ys =>
      rw [alternate, List.length_cons, List.length_cons, ih, List.length_cons, List.length_cons]
      omega

/-- A numbered value that goes is the head of the values in ascending order where no lower number has one. -/
theorem filterMap_first {α : Type} {n : Nat} {g g' : Fin n → Option α} {i : Fin n} {x : α} (hi : g i = some x)
    (hbelow : ∀ j < i, g j = none) (hi' : g' i = none) (hother : ∀ j ≠ i, g' j = g j) (xs : List (Fin n))
    (hsorted : xs.Pairwise (· < ·)) (hmem : i ∈ xs) : xs.filterMap g = x :: xs.filterMap g' := by
  induction xs with
  | nil => nomatch hmem
  | cons y ys ih =>
    obtain ⟨hy, hys⟩ := List.pairwise_cons.mp hsorted
    by_cases hyi : y = i
    · subst hyi
      rw [List.filterMap_cons_some hi, List.filterMap_cons_none hi',
        List.filterMap_congr fun j hj => hother j (hy j hj).ne']
    · have hin : i ∈ ys := (List.mem_cons.mp hmem).resolve_left (Ne.symm hyi)
      have hy' : g y = none := hbelow y (hy i hin)
      rw [List.filterMap_cons_none hy', List.filterMap_cons_none ((hother y hyi).trans hy'), ih hys hin]

/-! ### The reports that wait -/

namespace State

/-- The reports of the ring class, from its head. -/
def ringReports (s : State) : List ReportEntry :=
  s.report.ringClass.filterMap fun r => (s.ring r).reportDue.map fun rep => rep.entry r

/-- The report that lane `l` has pending. -/
def laneReport (s : State) (l : LaneId) : Option ReportEntry :=
  (s.laneAt l).record.map fun rec => laneReportEntry l rec.done rec.passes (s.laneAt l).passCount

/-- The reports of the lane class, from the lowest number. -/
def laneReports (s : State) : List ReportEntry := (List.finRange 8).filterMap s.laneReport

theorem waitingReports_eq (s : State) : s.waitingReports =
    if s.report.turn = .ring then alternate s.ringReports s.laneReports else alternate s.laneReports s.ringReports := rfl

/-- The entries taken and not yet written, oldest first. -/
def taken (s : State) : List ReportEntry := s.report.write.toList ++ s.report.buffer

/-- A report as it is completed when `i` entries are taken and not yet written (R162). -/
def completed (s : State) (i : Nat) (e : ReportEntry) : ReportEntry :=
  { e with
    lap := if s.report.writeIndex + i < s.report.size then s.report.lap else !s.report.lap
    frame := s.frameNumber }

variable {s t u : State}

theorem laneReports_of_no_head (h : s.laneClassHead = none) : s.laneReports = [] := by
  refine List.filterMap_eq_nil_iff.mpr fun l _ => ?_
  simp [laneReport, laneClassHead_eq_none_iff.mp h l]

theorem waitingReports_of_ring_turn (h : s.report.turn = .ring ∨ s.laneClassHead = none) :
    s.waitingReports = alternate s.ringReports s.laneReports := by
  rw [waitingReports_eq]
  rcases h with h | h
  · rw [if_pos h]
  · rw [laneReports_of_no_head h, alternate_nil_right, ite_eq_left_iff]
    exact fun _ => rfl

theorem waitingReports_of_lane_turn (h : s.report.turn = .lane ∨ s.report.ringClass = []) :
    s.waitingReports = alternate s.laneReports s.ringReports := by
  rw [waitingReports_eq]
  rcases h with h | h
  · rw [if_neg (by simp [h])]
  · have hrings : s.ringReports = [] := by simp [ringReports, h]
    rw [hrings, alternate_nil_right, ite_eq_right_iff]
    exact fun _ => rfl

/-- A taken report is completed behind those taken before it. -/
theorem takeReport_taken (s : State) (e : ReportEntry) :
    (s.takeReport e).taken = s.taken ++ [s.completed s.taken.length e] := by
  have hahead : s.taken.length = s.report.buffer.length + (if s.report.write.isSome then 1 else 0) := by
    cases h : s.report.write <;> simp [taken, h]
  simp only [taken, takeReport, withReport_report, List.append_assoc] at hahead ⊢
  rw [hahead]
  rfl

/-! ### What serving leaves -/

/-- Serving the reports of `s` may lead to `t`: the same report ring and rings, the first of the waiting reports taken
in their order, and the rings whose reports are taken told. -/
structure Serves (s t : State) : Prop where
  part : t.part = s.part
  rings : ∀ r, t.ring r = s.ring r
  frame : t.frameNumber = s.frameNumber
  unit : t.report = { s.report with
    buffer := t.report.buffer, write := t.report.write, ringClass := t.report.ringClass, turn := t.report.turn }
  reports : ∃ first, s.waitingReports = first ++ t.waitingReports ∧
    t.taken = s.taken ++ first.mapIdx fun i e => s.completed (s.taken.length + i) e
  told : ∃ told, s.report.ringClass = told ++ t.report.ringClass ∧
    ∀ r : RingId, t.transit.accepted[r] = (s.transit.accepted[r] || told.contains r)

theorem Serves.refl (s : State) : s.Serves s :=
  ⟨rfl, fun _ => rfl, rfl, rfl, ⟨[], by simp, by simp⟩, ⟨[], by simp, by simp⟩⟩

theorem Serves.completed (h : s.Serves t) : t.completed = s.completed := by
  funext i e
  have hunit := h.unit
  unfold State.completed
  rw [h.frame, hunit]

theorem Serves.trans (h : s.Serves t) (h' : t.Serves u) : s.Serves u := by
  refine ⟨h'.part.trans h.part, fun r => (h'.rings r).trans (h.rings r), h'.frame.trans h.frame,
    by rw [h'.unit, h.unit], ?_, ?_⟩
  · obtain ⟨first, hfirst, htaken⟩ := h.reports
    obtain ⟨next, hnext, htaken'⟩ := h'.reports
    refine ⟨first ++ next, by rw [hfirst, hnext, List.append_assoc], ?_⟩
    have hlength : t.taken.length = s.taken.length + first.length := by
      rw [htaken, List.length_append, List.length_mapIdx]
    rw [htaken', htaken, h.completed, List.mapIdx_append, List.append_assoc, ← htaken, hlength]
    simp only [Nat.add_assoc, Nat.add_comm]
  · obtain ⟨told, htold, haccepted⟩ := h.told
    obtain ⟨more, hmore, haccepted'⟩ := h'.told
    refine ⟨told ++ more, by rw [htold, hmore, List.append_assoc], fun r => ?_⟩
    rw [haccepted' r, haccepted r]
    simp [Bool.or_assoc]

/-- Of the report ring, a write that starts changes the buffer and the write in flight. -/
theorem startReportWrite_report (s : State) : s.startReportWrite.report = { s.report with
    buffer := s.startReportWrite.report.buffer, write := s.startReportWrite.report.write } := by
  unfold startReportWrite
  split
  · rfl
  · split <;> rfl

theorem startReportWrite_waitingReports (s : State) : s.startReportWrite.waitingReports = s.waitingReports := by
  have hunit := s.startReportWrite_report
  have hturn : s.startReportWrite.report.turn = s.report.turn := by rw [hunit]
  have hclass : s.startReportWrite.report.ringClass = s.report.ringClass := by rw [hunit]
  simp only [waitingReports, hturn, hclass, startReportWrite_frame]

theorem startReportWrite_serves (s : State) : s.Serves s.startReportWrite := by
  have hunit := s.startReportWrite_report
  have hturn : s.startReportWrite.report.turn = s.report.turn := by rw [hunit]
  have hclass : s.startReportWrite.report.ringClass = s.report.ringClass := by rw [hunit]
  refine ⟨by simp, by simp, by simp [frameNumber], by rw [hturn, hclass, ← hunit], ?_, ?_⟩
  · exact ⟨[], by simp [startReportWrite_waitingReports], by simpa [taken] using s.startReportWrite_entries⟩
  · exact ⟨[], by simp [hclass], by simp⟩

/-- Which class a grant takes from (R165). -/
theorem grant_eq_some (h : s.grant = some t) : s.part = .running ∧ s.report.buffer.length < 8 ∧
    ((∃ r, s.report.ringClass.head? = some r ∧ (s.report.turn = .ring ∨ s.laneClassHead = none) ∧
        t = s.grantRing r) ∨
      ∃ l, s.laneClassHead = some l ∧ (s.report.turn = .lane ∨ s.report.ringClass = []) ∧ t = s.grantLane l) := by
  obtain ⟨hrunning, hroom, -⟩ := grant_cases h
  refine ⟨isRunning_eq_true_iff.mp hrunning, of_decide_eq_true hroom, ?_⟩
  simp only [grant, hrunning, hroom, Bool.and_self, if_true] at h
  cases hring : s.report.ringClass.head? with
  | none =>
    have hempty := List.head?_eq_none_iff.mp hring
    cases hlane : s.laneClassHead with
    | none => simp [hring, hlane] at h
    | some l => exact .inr ⟨l, rfl, .inr hempty, by simpa [hring, hlane, eq_comm] using h⟩
  | some r =>
    cases hlane : s.laneClassHead with
    | none => exact .inl ⟨r, rfl, .inr rfl, by simpa [hring, hlane, eq_comm] using h⟩
    | some l =>
      cases hturn : s.report.turn with
      | ring => exact .inl ⟨r, rfl, .inl rfl, by simpa [hring, hlane, hturn, eq_comm] using h⟩
      | lane => exact .inr ⟨l, rfl, .inl rfl, by simpa [hring, hlane, hturn, eq_comm] using h⟩

/-- A grant to the ring class takes the report of its head and tells that ring (R163). -/
theorem grantRing_serves {r : RingId} {rest : List RingId} {rep : RingReport} (hclass : s.report.ringClass = r :: rest)
    (hdue : (s.ring r).reportDue = some rep) (hturn : s.report.turn = .ring ∨ s.laneClassHead = none) :
    s.Serves (s.grantRing r) ∧ s.waitingReports = rep.entry r :: (s.grantRing r).waitingReports := by
  have hgrant : s.grantRing r =
      ((s.withReport { s.report with ringClass := rest, turn := .lane }).takeReport (rep.entry r)).withTransit
        { s.transit with accepted := update s.transit.accepted r true } := by
    simp only [grantRing, hdue, hclass, List.tail_cons]
    rfl
  have hrings : s.ringReports = rep.entry r :: (s.grantRing r).ringReports := by
    rw [hgrant, ringReports, hclass, List.filterMap_cons_some (by rw [hdue]; rfl)]
    rfl
  have hlanes : (s.grantRing r).laneReports = s.laneReports := by
    rw [hgrant]
    rfl
  have hwaiting : s.waitingReports = rep.entry r :: (s.grantRing r).waitingReports := by
    rw [waitingReports_of_ring_turn hturn, waitingReports_of_lane_turn (s := s.grantRing r) (.inl (by rw [hgrant]; rfl)),
      hrings, hlanes, alternate_cons]
  refine ⟨⟨by rw [hgrant]; rfl, fun _ => by rw [hgrant]; rfl, by rw [hgrant]; rfl, by rw [hgrant]; rfl, ?_, ?_⟩,
    hwaiting⟩
  · refine ⟨[rep.entry r], hwaiting, ?_⟩
    rw [hgrant]
    exact takeReport_taken (s.withReport { s.report with ringClass := rest, turn := .lane }) (rep.entry r)
  · refine ⟨[r], by rw [hgrant]; exact hclass, fun q => ?_⟩
    rw [hgrant]
    show (update s.transit.accepted r true)[q.1] = _
    rw [update_get]
    by_cases hq : q = r
    · simp [hq]
    · simp [hq]

/-- A grant to the lane class takes the record of its head (R166). -/
theorem grantLane_serves {l : LaneId} (hhead : s.laneClassHead = some l)
    (hturn : s.report.turn = .lane ∨ s.report.ringClass = []) :
    s.Serves (s.grantLane l) ∧ s.waitingReports.length = (s.grantLane l).waitingReports.length + 1 := by
  obtain ⟨hrec, hbelow⟩ := lowest_eq_some_iff.mp hhead
  obtain ⟨rec, hrec⟩ := Option.isSome_iff_exists.mp hrec
  have hrec' : (s.laneAt l).record = some rec := hrec
  have hgrant : s.grantLane l = ((s.withReport { s.report with turn := .ring }).takeReport
      (laneReportEntry l rec.done rec.passes (s.laneAt l).passCount)).modLane l fun k => { k with record := none } := by
    simp only [grantLane, hrec']
  have hlanes : s.laneReports =
      laneReportEntry l rec.done rec.passes (s.laneAt l).passCount :: (s.grantLane l).laneReports := by
    refine filterMap_first ?_ (fun m hm => ?_) ?_ (fun m hm => ?_) _ (List.pairwise_lt_finRange 8) (List.mem_finRange l)
    · simp [laneReport, hrec']
    · simpa [laneReport, laneAt] using hbelow m hm
    · simp [laneReport, hgrant]
    · simp [laneReport, hgrant, modLane_laneAt, hm]
  have hrings : (s.grantLane l).ringReports = s.ringReports := by
    rw [hgrant]
    rfl
  have hwaiting : s.waitingReports =
      laneReportEntry l rec.done rec.passes (s.laneAt l).passCount :: (s.grantLane l).waitingReports := by
    rw [waitingReports_of_lane_turn hturn, waitingReports_of_ring_turn (s := s.grantLane l) (.inl (by rw [hgrant]; rfl)),
      hlanes, hrings, alternate_cons]
  refine ⟨⟨by rw [hgrant]; rfl, fun _ => by rw [hgrant]; rfl, by rw [hgrant]; rfl, by rw [hgrant]; rfl, ?_, ?_⟩,
    by rw [hwaiting, List.length_cons]⟩
  · refine ⟨[_], hwaiting, ?_⟩
    rw [hgrant]
    exact takeReport_taken (s.withReport { s.report with turn := .ring }) _
  · refine ⟨[], by rw [hgrant]; rfl, fun q => ?_⟩
    rw [hgrant]
    exact (Bool.or_false _).symm

/-- A grant takes the head of the waiting reports. -/
theorem grant_serves (hdue : ∀ r ∈ s.report.ringClass, (s.ring r).reportDue ≠ none) (h : s.grant = some t) :
    s.Serves t ∧ s.waitingReports.length = t.waitingReports.length + 1 := by
  obtain ⟨-, -, ⟨r, hring, hturn, rfl⟩ | ⟨l, hlane, hturn, rfl⟩⟩ := grant_eq_some h
  · obtain ⟨rest, hclass⟩ := List.head?_eq_some_iff.mp hring
    obtain ⟨rep, hrep⟩ := Option.ne_none_iff_exists'.mp (hdue r (by simp [hclass]))
    obtain ⟨hserves, hwaiting⟩ := grantRing_serves hclass hrep hturn
    exact ⟨hserves, by rw [hwaiting, List.length_cons]⟩
  · exact grantLane_serves hlane hturn

/-- No grant is given only where nothing waits or the buffer is full (R165). -/
theorem grant_eq_none (hpart : s.part = .running) (hlength : s.report.buffer.length ≤ 8) (h : s.grant = none) :
    s.report.buffer.length = 8 ∨ (s.report.ringClass = [] ∧ ∀ l, (s.laneAt l).record = none) := by
  by_cases hroom : s.report.hasRoom = true
  · have hrunning : s.isRunning = true := isRunning_eq_true_iff.mpr hpart
    simp only [grant, hrunning, hroom, Bool.and_self, if_true] at h
    cases hring : s.report.ringClass.head? with
    | none =>
      cases hlane : s.laneClassHead with
      | none => exact .inr ⟨List.head?_eq_none_iff.mp hring, laneClassHead_eq_none_iff.mp hlane⟩
      | some l => simp [hring, hlane] at h
    | some r =>
      cases hlane : s.laneClassHead with
      | none => simp [hring, hlane] at h
      | some l => cases hturn : s.report.turn <;> simp [hring, hlane, hturn] at h
  · exact .inl (Nat.le_antisymm hlength (Nat.le_of_not_lt fun hlt => hroom (decide_eq_true hlt)))

/-! ### The end of the grants -/

/-- A write is in flight unless the buffer is empty or the report ring is full (R167). -/
def WritesOn (s : State) : Prop :=
  s.report.write ≠ none ∨ s.report.buffer = [] ∨
    s.report.size ≤ forward s.report.size s.report.releaseIndex s.report.writeIndex + 1

theorem startReportWrite_writesOn (hpart : s.part = .running) : s.startReportWrite.WritesOn := by
  unfold startReportWrite
  split
  next hbuffer => exact .inr (.inl hbuffer)
  next e rest hbuffer =>
    split
    · exact .inl (by simp)
    next hstart =>
      simp only [isRunning_eq_true_iff.mpr hpart, Bool.true_and, Bool.and_eq_true, Option.isNone_iff_eq_none,
        decide_eq_true_eq, not_and_or] at hstart
      exact hstart.imp id fun hfull => .inr (Nat.not_lt.mp hfull)

theorem startReportWrite_buffer_le (s : State) :
    s.startReportWrite.report.buffer.length ≤ s.report.buffer.length := by
  unfold startReportWrite
  split
  · exact le_rfl
  next e rest hbuffer =>
    split
    · rw [hbuffer]
      exact Nat.le_succ _
    · exact le_rfl

theorem grant_buffer_le (h : s.grant = some t) : t.report.buffer.length ≤ 8 := by
  obtain ⟨-, hroom, ⟨r, -, -, rfl⟩ | ⟨l, -, -, rfl⟩⟩ := grant_eq_some h
  · unfold grantRing
    dsimp only
    split
    · simp [takeReport]
      omega
    · simp
      omega
  · unfold grantLane
    dsimp only
    split
    · simp [takeReport]
      omega
    · simp
      omega

/-- Grants enough for the waiting reports end with a full buffer or nothing waiting. -/
theorem grants_serves (n : Nat) (hpart : s.part = .running)
    (hdue : ∀ r ∈ s.report.ringClass, (s.ring r).reportDue ≠ none) (hlength : s.report.buffer.length ≤ 8)
    (hwrites : s.WritesOn) (hn : s.waitingReports.length ≤ n) :
    s.Serves (grants n s) ∧ (grants n s).WritesOn ∧ (grants n s).report.buffer.length ≤ 8 ∧
      ((grants n s).report.buffer.length = 8 ∨
        ((grants n s).report.ringClass = [] ∧ ∀ l, ((grants n s).laneAt l).record = none)) := by
  induction n generalizing s with
  | zero =>
    refine ⟨.refl s, hwrites, hlength, grant_eq_none hpart hlength ?_⟩
    by_contra hsome
    obtain ⟨t, ht⟩ := Option.ne_none_iff_exists'.mp hsome
    have := (grant_serves hdue ht).2
    omega
  | succ n ih =>
    cases hgrant : s.grant with
    | none =>
      rw [grants, hgrant]
      exact ⟨.refl s, hwrites, hlength, grant_eq_none hpart hlength hgrant⟩
    | some t =>
      obtain ⟨hserves, hcount⟩ := grant_serves hdue hgrant
      have hstarted : s.Serves t.startReportWrite := hserves.trans t.startReportWrite_serves
      have hpart' := hstarted.part.trans hpart
      obtain ⟨told, htold, -⟩ := hstarted.told
      obtain ⟨hends, hrest⟩ := ih hpart'
        (fun r hr => (hstarted.rings r).symm ▸ hdue r (htold ▸ List.mem_append_right told hr))
        (t.startReportWrite_buffer_le.trans (grant_buffer_le hgrant))
        (startReportWrite_writesOn (hserves.part.trans hpart))
        (by rw [startReportWrite_waitingReports]; omega)
      rw [grants, hgrant]
      exact ⟨hstarted.trans hends, hrest⟩

theorem waitingReports_length_le (s : State) : s.waitingReports.length ≤ s.report.ringClass.length + 8 := by
  have hrings : s.ringReports.length ≤ s.report.ringClass.length := List.length_filterMap_le _ _
  have hlanes : s.laneReports.length ≤ (List.finRange 8).length := List.length_filterMap_le _ _
  rw [List.length_finRange] at hlanes
  rw [waitingReports_eq]
  split
  · rw [length_alternate]
    omega
  · rw [length_alternate]
    omega

theorem serveReports_serves (hpart : s.part = .running) (hlength : s.report.buffer.length ≤ 8)
    (hdue : ∀ r ∈ s.report.ringClass, (s.ring r).reportDue ≠ none) :
    s.Serves s.serveReports ∧ s.serveReports.WritesOn ∧ s.serveReports.report.buffer.length ≤ 8 ∧
      (s.serveReports.report.buffer.length = 8 ∨
        (s.serveReports.report.ringClass = [] ∧ ∀ l, (s.serveReports.laneAt l).record = none)) := by
  have hclass : s.startReportWrite.report.ringClass = s.report.ringClass := by rw [startReportWrite_report]
  obtain ⟨hserves, hrest⟩ := grants_serves (s := s.startReportWrite) (s.report.ringClass.length + 8) (by simpa using hpart)
    (fun r hr => by simpa using hdue r (hclass ▸ hr)) (s.startReportWrite_buffer_le.trans hlength)
    (startReportWrite_writesOn hpart) (by rw [startReportWrite_waitingReports]; exact s.waitingReports_length_le)
  exact ⟨s.startReportWrite_serves.trans hserves, hrest⟩

end State

/-- Settles O39: by induction on the grants. -/
theorem servedReportsLeaveNothingWaiting : Obligations.ServedReportsLeaveNothingWaiting := by
  intro s hpart hlength hdue t ahead completed
  obtain ⟨hserves, hwrites, hbuffer, hnothing⟩ := State.serveReports_serves hpart hlength hdue
  refine ⟨hnothing, hwrites, hbuffer, ?_, hserves.told⟩
  obtain ⟨first, hfirst, htaken⟩ := hserves.reports
  have hahead : s.taken.length = ahead := by
    cases h : s.report.write <;> simp [State.taken, ahead, h]
  refine ⟨first.length, by rw [hfirst, List.drop_left], ?_⟩
  rw [hfirst, List.take_left]
  refine htaken.trans ?_
  simp only [hahead, State.completed, completed, ← Nat.add_assoc]
  rfl

end Sys2Proof.Machine
end


section
/-! PROOFS. WRITE, INSERT and REFRESH as they are taken (sections 2.4 and 2.5), and how an edit goes on, commits and is
abandoned. -/

namespace Sys2Proof.Machine

namespace Blocks

variable {b : Blocks} {r : RingId} {e : WorkEntry} {l : LaneId} {v : LaneService}

/-! ### The course of an edit (R39) -/

theorem stepEdit_of_current (h : v.current ≠ none) :
    b.stepEdit v = ({ b with lane := { b.lane with service := some v } }, []) := by
  obtain ⟨c, hc⟩ := Option.ne_none_iff_exists'.mp h
  simp only [stepEdit, hc]

/-- The next record is looked up once the one before it has been answered. -/
theorem stepEdit_of_todo {c : StagedCell} {rest : List StagedCell} {g : GlyphTable} {tasks : List Task}
    (hcurrent : v.current = none) (htodo : v.todo = c :: rest)
    (hlooked : b.glyph.lookup .laneEdit (b.laneAt v.lane).settings.face c.cell.code = (g, tasks)) : b.stepEdit v =
      ({ b with
        glyph := g
        lane := { b.lane with service := some { v with todo := rest, current := some c } } }, tasks) := by
  simp only [stepEdit, hcurrent, htodo, hlooked, onGlyph]

/-- With every record answered and the read ended the edit commits. -/
theorem stepEdit_of_end (hcurrent : v.current = none) (htodo : v.todo = []) (hundelivered : v.undelivered = 0)
    (hread : v.read = none) : b.stepEdit v = b.commitEdit v := by
  simp only [stepEdit, hcurrent, htodo, hundelivered, hread, Option.isNone_none, and_self, if_true]

/-- A record that is answered, with whatever the answer is but a bus error, is staged (R40). -/
theorem laneAnswered_of_staged {c : StagedCell} {a : LookupAnswer} (hservice : b.lane.service = some v)
    (hcurrent : v.current = some c) (ha : a ≠ .busError) : b.laneAnswered a =
      ({ b with lane := { b.lane with
        staging := b.lane.staging ++ [{ c with cell := { c.cell with slot := stagedSlot a } }] } } : Blocks).stepEdit
          { v with current := none } := by
  simp only [laneAnswered, hservice, hcurrent, ha, if_false]

/-- A bus error abandons the edit (R41). -/
theorem laneAnswered_of_busError {c : StagedCell} (hservice : b.lane.service = some v) (hcurrent : v.current = some c) :
    b.laneAnswered .busError = b.abandonEdit { v with current := none } := by
  simp only [laneAnswered, hservice, hcurrent, if_true]

/-! ### The commit (R42, R43, R50) -/

theorem commitEdit_of_refresh {cells : List TextCell} (h : v.edit = .refresh)
    (hcells : refreshCells b.lane.staging (b.laneAt v.lane).cells = cells) : b.commitEdit v =
      (({ b with lane := { b.lane with staging := [], service := none } } : Blocks).setLane v.lane
        { b.laneAt v.lane with cells := cells }).laneAnswer v.ring (editAnswer 0 (missingCount cells)) := by
  simp only [commitEdit, h, hcells]

/-- Without records a REFRESH leaves the lanes. -/
theorem commitEdit_of_empty_refresh (h : v.edit = .refresh) (hstaging : b.lane.staging = []) : b.commitEdit v =
    ({ b with lane := { b.lane with staging := [], service := none } } : Blocks).laneAnswer v.ring
      (editAnswer 0 (missingCount (b.laneAt v.lane).cells)) := by
  have hlanes : update b.lane.lanes v.lane b.lane.lanes[v.lane.1] = b.lane.lanes := update_same _ _
  rw [commitEdit_of_refresh h (congrArg (refreshCells · (b.laneAt v.lane).cells) hstaging)]
  exact congrArg (fun lanes => ({ b with lane := { b.lane with
    lanes := lanes, staging := [], service := none } } : Blocks).laneAnswer v.ring _) hlanes

/-! ### WRITE and INSERT (R37, R38) -/

/-- The cells that find room behind the place where an edit puts them. -/
theorem storedCells_eq {edit : EditKind} (k : Lane) (n : Nat) :
    storedCells edit k n = min n (128 - if edit = .write then k.cursor else k.cells.length) := by
  cases edit <;> rfl

theorem startEdit_of_set (hl : e.u8 0x04 = l.1) (hset : (b.laneAt l).state = .set) (edit : EditKind) :
    b.startEdit edit r e =
      if e.u16 0x06 < 1 ∨ 128 < e.u16 0x06 ∨ (e.word 0x08).toNat % 4 ≠ 0 then b.laneAnswer r (.failed .badOperand)
      else if b.glyph.faces[(b.laneAt l).settings.face].state = .empty then b.laneAnswer r (.failed .notSet)
      else if storedCells edit (b.laneAt l) (e.u16 0x06) = 0 then
        (b.setLane l ((b.laneAt l).adjust (b.advanceOf (b.laneAt l)))).laneAnswer r (.partially (e.u16 0x06) 0)
      else ({ b with lane := { b.lane with
          staging := []
          service := some ⟨r, l, edit, e.u16 0x06 - storedCells edit (b.laneAt l) (e.u16 0x06), [],
            storedCells edit (b.laneAt l) (e.u16 0x06), none,
            some ⟨(e.word 0x08).toNat, storedCells edit (b.laneAt l) (e.u16 0x06) * 4⟩⟩ } }, []) := by
  simp only [startEdit, checkLane_set l hl hset]

/-! ### REFRESH (R49) -/

theorem startRefresh_of_set (hl : e.u8 0x04 = l.1) (hset : (b.laneAt l).state = .set) : b.startRefresh r e =
    if b.glyph.faces[(b.laneAt l).settings.face].state = .empty then b.laneAnswer r (.failed .notSet)
    else ({ b with lane := { b.lane with staging := [] } } : Blocks).stepEdit
      ⟨r, l, .refresh, 0, missingCells 0 (b.laneAt l).cells, 0, none, none⟩ := by
  simp only [startRefresh, checkLane_set l hl hset]

theorem missingCells_of_held {cells : List TextCell} (h : ∀ c ∈ cells, c.slot ≠ none) (k : Nat) :
    missingCells k cells = [] := by
  induction cells generalizing k with
  | nil => rfl
  | cons c rest ih =>
    obtain ⟨hc, hrest⟩ := List.forall_mem_cons.mp h
    rw [missingCells, if_neg (by simpa using hc), ih hrest]

/-- The first MISSING cell of a list is its first record. -/
theorem missingCells_of_missing {before after : List TextCell} {cell : TextCell} (h : ∀ c ∈ before, c.slot ≠ none)
    (hcell : cell.slot = none) (k : Nat) : missingCells k (before ++ cell :: after) =
      ⟨cell, k + before.length⟩ :: missingCells (k + before.length + 1) after := by
  induction before generalizing k with
  | nil => simp [missingCells, hcell]
  | cons c rest ih =>
    obtain ⟨hc, hrest⟩ := List.forall_mem_cons.mp h
    rw [List.cons_append, missingCells, if_neg (by simpa using hc), ih hrest, List.length_cons]
    simp only [Nat.add_assoc, Nat.add_comm 1]

/-- A record's answer goes into its cell, and leaves it where there is no slot. -/
theorem refreshCells_single {before after : List TextCell} {cell : TextCell} (slot : Option SlotId) (c : TextCell) :
    refreshCells [⟨{ c with slot := slot }, before.length⟩] (before ++ cell :: after) =
      match slot with
      | some n => before ++ { cell with slot := some n } :: after
      | none => before ++ cell :: after := by
  cases slot with
  | none => simp [refreshCells]
  | some n => simp [refreshCells]

/-- The answer to the one record of a REFRESH ends it. -/
theorem laneAnswered_of_refresh {before after : List TextCell} {cell : TextCell} {a : LookupAnswer}
    (hservice : b.lane.service = some ⟨r, l, .refresh, 0, [], 0, some ⟨cell, before.length⟩, none⟩)
    (hstaging : b.lane.staging = []) (hcells : (b.laneAt l).cells = before ++ cell :: after) (ha : a ≠ .busError)
    {cells : List TextCell} (h : refreshCells [⟨{ cell with slot := stagedSlot a }, before.length⟩]
      (before ++ cell :: after) = cells) : b.laneAnswered a =
        (({ b with lane := { b.lane with staging := [], service := none } } : Blocks).setLane l
          { b.laneAt l with cells := cells }).laneAnswer r (editAnswer 0 (missingCount cells)) := by
  rw [laneAnswered_of_staged hservice rfl ha, stepEdit_of_end rfl rfl rfl rfl, commitEdit_of_refresh rfl]
  · rfl
  · rw [hstaging]
    exact (congrArg (refreshCells _) hcells).trans h

end Blocks

theorem missingCount_of_held {cells : List TextCell} (h : ∀ c ∈ cells, c.slot ≠ none) : missingCount cells = 0 := by
  rw [missingCount, List.countP_eq_zero]
  intro c hc
  simpa using h c hc

theorem missingCount_append (cells cells' : List TextCell) :
    missingCount (cells ++ cells') = missingCount cells + missingCount cells' := List.countP_append

theorem LaneUnit.free_eq {u : LaneUnit} (h : u.service = none) (lanes : Vector Lane 8) :
    ({ u with lanes := lanes, staging := [], service := none } : LaneUnit) = { u with lanes := lanes, staging := [] } :=
  congrArg (fun v => ({ u with lanes := lanes, staging := [], service := v } : LaneUnit)) h.symm

/-! ### Lane entries that stay in service -/

section

variable {s : State} {r : RingId} {e : WorkEntry} {command : Instr} {kind : Kind} {op : Nat → Bool}

/-- A row of the Lane Unit that takes an entry into service. -/
theorem exec_lane_serves (hexec : exec command s = .next (s.takeLaneEntry r kind op)) (hpart : s.part ≠ .resetting)
    (hwaits : s.waitsAt r e) (hfree : s.laneFree) (hkind : e.kind = some kind) (hop : op e.operation = true)
    {g : GlyphTable} {u : LaneUnit} (h : s.blocks.serveLane r e = ({ s.blocks with glyph := g, lane := u }, [])) :
    exec command s = .next (((s.clearHandover r).withGlyph g).withLane u) := by
  rw [hexec, State.takeLaneEntry_served hpart hwaits hkind hop hfree.1, State.runBlocks_nil (by exact h),
    State.putBlocks_of_silent _ rfl]
  rfl

/-- The Lane Unit without entries stays free at the end of one. -/
theorem Blocks.Settles.laneTake {b : Blocks} (h : b.lane.entries = []) : Blocks.Settles 1 [.laneTake] b b := by
  intro n hn
  obtain ⟨m, rfl⟩ := Nat.exists_eq_add_of_le' hn
  exact Blocks.settle_laneTake m (.inr h)

/-- A row of the Lane Unit whose entry ends in the same handling, after a lookup answered at once. -/
theorem exec_lane_settles (hexec : exec command s = .next (s.takeLaneEntry r kind op)) (hpart : s.part ≠ .resetting)
    (hwaits : s.waitsAt r e) (hfree : s.laneFree) (hkind : e.kind = some kind) (hop : op e.operation = true)
    {b : Blocks} {t : Task} {g : GlyphTable} {u : LaneUnit} {a : Answer}
    (h : s.blocks.serveLane r e = (b, [t]))
    (ht : b.doTask t = ({ s.blocks with glyph := g, lane := u } : Blocks).laneAnswer r a) (hentries : u.entries = []) :
    exec command s = .next (((s.withGlyph g).withLane u).answered r a) := by
  rw [hexec, State.takeLaneEntry_served hpart hwaits hkind hop hfree.1,
    State.runBlocks_of_settles (s := s.clearHandover r) (by exact h) (.cons ht (.laneTake
      (b := ({ s.blocks with glyph := g, lane := u } : Blocks).answer r a) hentries))
      (by decide),
    State.putBlocks_answer hwaits _ (by rfl)]
  rfl

end

/-- Settles O54: the checks in order, then the read of the cells that fit; a REFRESH by its first MISSING cell. -/
theorem editsBeginWithTheirReadOrLookup : Obligations.EditsBeginWithTheirReadOrLookup := by
  intro s r e l hpart hwaits hfree hl k fails serving n addr valid loaded
  have hne (h : loaded) : ¬s.glyph.faces[k.settings.face].state = .empty := fun h' => nomatch h.symm.trans h'
  have hempty (h : ¬loaded) : s.glyph.faces[k.settings.face].state = .empty := by
    cases hface : s.glyph.faces[k.settings.face].state with
    | empty => rfl
    | loaded => exact absurd hface h
  refine ⟨fun edit command hmem hkind => ?_, fun hkind hop => ?_, fun hkind hop hset => ?_⟩
  · intro room
    have hserves : s.blocks.serveLane r e = s.blocks.laneText r e := Blocks.serveLane_laneText hkind
    obtain ⟨hop4, hedit, op, hexec, htakes⟩ : e.operation ≤ 4 ∧ s.blocks.laneText r e = s.blocks.startEdit edit r e ∧
        ∃ op, exec command s = .next (s.takeLaneEntry r .laneText op) ∧ op e.operation = true := by
      simp only [List.mem_cons, Prod.mk.injEq, List.not_mem_nil, or_false] at hmem
      rcases hmem with ⟨hop, rfl, rfl⟩ | ⟨hop, rfl, rfl⟩
      · exact ⟨by omega, by simp only [Blocks.laneText, hop], _, exec_laneTextWrite r s, by simp [hop]⟩
      · exact ⟨by omega, by simp only [Blocks.laneText, hop], _, exec_laneTextInsert r s, by simp [hop]⟩
    have hstored : Blocks.storedCells edit (s.blocks.laneAt l) (e.u16 0x06) = min n room := Blocks.storedCells_eq k n
    have hstart (hset : k.state = .set) := hserves.trans (hedit.trans (Blocks.startEdit_of_set (b := s.blocks) hl hset edit))
    refine ⟨fun hunset => ?_, fun hset hinvalid => ?_, fun hset hvalid hface => ?_, fun hset hvalid hface hroom => ?_,
      fun hset hvalid hface hroom => ?_⟩
    · exact exec_lane_fails hexec hpart hwaits hfree hkind htakes
        (hserves.trans (Blocks.laneText_of_error hop4 (Blocks.checkLane_unset l hl hunset)))
    · exact exec_lane_fails hexec hpart hwaits hfree hkind htakes ((hstart hset).trans (if_pos (by omega)))
    · exact exec_lane_fails hexec hpart hwaits hfree hkind htakes
        ((hstart hset).trans ((if_neg (by omega)).trans (if_pos (hempty hface))))
    · have h := (hstart hset).trans ((if_neg (by omega)).trans ((if_neg (hne hface)).trans
        (if_pos (hstored.trans (by omega)))))
      rw [Answer.partially_eq (by omega) (by decide)] at h
      exact exec_lane_ends_lane hexec hpart hwaits hfree hkind htakes h
    · have h := (hstart hset).trans ((if_neg (by omega)).trans ((if_neg (hne hface)).trans
        (if_neg (by rw [hstored]; omega))))
      rw [hstored] at h
      exact exec_lane_serves hexec hpart hwaits hfree hkind htakes h
  · exact exec_lane_fails (exec_laneTextWrite r s) hpart hwaits hfree hkind (by simp; omega)
      ((Blocks.serveLane_laneText hkind).trans (Blocks.laneText_of_unknown hop))
  · have hserves : s.blocks.serveLane r e = s.blocks.startRefresh r e := by
      rw [Blocks.serveLane_laneView hkind]
      simp only [Blocks.laneView, hop]
    have hstart := hserves.trans (Blocks.startRefresh_of_set (b := s.blocks) hl hset)
    have htakes : (fun op : Nat => op == 2) e.operation = true := by simp [hop]
    refine ⟨fun hface => ?_, fun hface hheld => ?_, fun before cell after g hface hcells hheld hcell hlooked => ?_,
      fun before cell after g answer hface hcells hheld hcell hlooked => ?_⟩
    · exact exec_lane_fails (exec_laneViewRefresh r s) hpart hwaits hfree hkind htakes
        (hstart.trans (if_pos (hempty hface)))
    · have hnone : Blocks.missingCells 0 (s.blocks.laneAt l).cells = [] := Blocks.missingCells_of_held hheld 0
      have h : s.blocks.serveLane r e = ({ s.blocks with
          lane := { s.lane with staging := [], service := none } } : Blocks).laneAnswer r
            (Blocks.editAnswer 0 (missingCount k.cells)) :=
        hstart.trans ((if_neg (hne hface)).trans
          ((Blocks.stepEdit_of_end rfl hnone rfl rfl).trans (Blocks.commitEdit_of_empty_refresh rfl rfl)))
      rw [missingCount_of_held hheld] at h
      rw [exec_laneViewRefresh, State.takeLaneEntry_answered hpart hwaits hkind htakes hfree s.glyph _ _ h hfree.2]
      exact congrArg (fun u => Host.Outcome.next ((s.withLane u).answered r .done)) (LaneUnit.free_eq hfree.1 _)
    · have hmissing : Blocks.missingCells 0 (s.blocks.laneAt l).cells =
          ⟨cell, 0 + before.length⟩ :: Blocks.missingCells (0 + before.length + 1) after :=
        (congrArg (Blocks.missingCells 0) hcells).trans (Blocks.missingCells_of_missing hheld hcell 0)
      rw [Nat.zero_add] at hmissing
      have h := hstart.trans ((if_neg (hne hface)).trans (Blocks.stepEdit_of_todo rfl hmissing (by exact hlooked)))
      exact exec_lane_serves (exec_laneViewRefresh r s) hpart hwaits hfree hkind htakes h
    · have hmissing : Blocks.missingCells 0 (s.blocks.laneAt l).cells = [⟨cell, before.length⟩] := by
        rw [show (s.blocks.laneAt l).cells = _ from hcells,
          Blocks.missingCells_of_missing (fun c hc => hheld c (List.mem_append_left _ hc)) hcell 0,
          Blocks.missingCells_of_held (fun c hc => hheld c (List.mem_append_right _ hc)), Nat.zero_add]
      let b : Blocks := { s.blocks with
        glyph := g
        lane := { s.lane with
          staging := [], service := some ⟨r, l, .refresh, 0, [], 0, some ⟨cell, before.length⟩, none⟩ } }
      have h : s.blocks.serveLane r e = (b, [.answered .laneEdit answer]) :=
        hstart.trans ((if_neg (hne hface)).trans (Blocks.stepEdit_of_todo rfl hmissing (by exact hlooked)))
      have hends {cells : List TextCell} (hanswer : answer ≠ .busError)
          (hcommitted : Blocks.refreshCells [⟨{ cell with slot := Blocks.stagedSlot answer }, before.length⟩]
            (before ++ cell :: after) = cells) : exec (.laneViewRefresh r) s =
              .next (((s.withGlyph g).withLane { s.lane with
                lanes := update s.lane.lanes l { k with cells := cells }, staging := [] }).answered r
                  (Blocks.editAnswer 0 (missingCount cells))) := by
        have hanswered : b.doTask (.answered .laneEdit answer) = _ :=
          Blocks.laneAnswered_of_refresh (b := b) (l := l) rfl rfl hcells hanswer hcommitted
        rw [exec_lane_settles (exec_laneViewRefresh r s) hpart hwaits hfree hkind htakes h hanswered hfree.2]
        exact congrArg (fun u => Host.Outcome.next (((s.withGlyph g).withLane u).answered r _))
          (LaneUnit.free_eq hfree.1 _)
      refine ⟨fun n hn => ?_, fun hnone => ?_⟩
      · subst hn
        have hcount : missingCount (before ++ { cell with slot := some n } :: after) = 0 :=
          missingCount_of_held fun c hc => by
            rcases List.mem_append.mp hc with hc | hc
            · exact hheld c (List.mem_append_left _ hc)
            · rcases List.mem_cons.mp hc with rfl | hc
              · exact nofun
              · exact hheld c (List.mem_append_right _ hc)
        rw [hends nofun (Blocks.refreshCells_single (some n) cell), hcount]
        rfl
      · have hslot : Blocks.stagedSlot answer = none ∧ answer ≠ .busError := by
          rcases hnone with rfl | rfl | rfl <;> exact ⟨rfl, nofun⟩
        have hcount : missingCount k.cells = 1 := by
          rw [hcells, missingCount_append, missingCount_of_held fun c hc => hheld c (List.mem_append_left _ hc),
            missingCount, List.countP_cons_of_pos (by simp [hcell])]
          exact congrArg (fun n => 0 + (n + 1)) (missingCount_of_held fun c hc => hheld c (List.mem_append_right _ hc))
        have hlanes : update s.lane.lanes l k = s.lane.lanes := update_same s.lane.lanes l
        have hcommitted : Blocks.refreshCells [⟨{ cell with slot := Blocks.stagedSlot answer }, before.length⟩]
            (before ++ cell :: after) = k.cells := by
          rw [hslot.1, hcells]
          exact Blocks.refreshCells_single none cell
        rw [hends hslot.2 hcommitted, hcount]
        exact congrArg (fun lanes => Host.Outcome.next (((s.withGlyph g).withLane { s.lane with
          lanes := lanes, staging := [] }).answered r ⟨.partially, 0, 1⟩)) hlanes

end Sys2Proof.Machine
end


section
/-! PROOFS. The cell-list read (section 2.4): what lookups and pins leave of the Glyph Table, and the ways in which an
edit goes on when records arrive or the read ends. -/

namespace Sys2Proof.Machine

/-! ### What pins, lookups and fills leave of the Glyph Table -/

namespace GlyphTable

/-- The Glyph Table bar its slots, reclaim list, fetch queue and fetch. -/
def Rest (g g' : GlyphTable) : Prop :=
  g' = { g with slots := g'.slots, reclaim := g'.reclaim, queue := g'.queue, fetch := g'.fetch }

section

variable {g g' g'' : GlyphTable}

theorem Rest.refl (g : GlyphTable) : g.Rest g := rfl

theorem Rest.trans (h : g.Rest g') (h' : g'.Rest g'') : g.Rest g'' := by
  unfold Rest at *
  rw [h', h]

theorem Rest.faces (h : g.Rest g') : g'.faces = g.faces := by rw [h]

theorem Rest.service (h : g.Rest g') : g'.service = g.service := by rw [h]

theorem Rest.entries (h : g.Rest g') : g'.entries = g.entries := by rw [h]

theorem Rest.staging (h : g.Rest g') : g'.staging = g.staging := by rw [h]

theorem pin_rest (g : GlyphTable) (n : SlotId) : g.Rest (g.pin n) := by
  unfold pin
  dsimp only
  split <;> rfl

theorem unpin_rest (g : GlyphTable) (n : SlotId) : g.Rest (g.unpin n) := by
  unfold unpin
  dsimp only
  split <;> rfl

theorem unpinAll_rest (slots : List (Option SlotId)) (g : GlyphTable) : g.Rest (g.unpinAll slots) := by
  induction slots generalizing g with
  | nil => exact .refl g
  | cons x rest ih =>
    cases x with
    | none => exact ih g
    | some n => exact (g.unpin_rest n).trans (ih _)

theorem hit_rest (g : GlyphTable) (who : Requester) (n : SlotId) : g.Rest (g.hit who n) := by
  unfold hit
  split
  · exact g.pin_rest n
  · split <;> rfl

theorem allocate_rest {n : SlotId} (h : g.allocate = some (n, g')) : g.Rest g' := by
  unfold allocate at h
  split at h
  · cases h
    exact .refl g
  · split at h
    · nomatch h
    · cases h
      rfl

theorem defineInPlace_rest (g : GlyphTable) (n : SlotId) : g.Rest (g.defineInPlace n).1 := by
  unfold defineInPlace
  dsimp only
  split
  · rfl
  · split <;> rfl

theorem defineAllocate_rest (g : GlyphTable) (key : Key) : g.Rest (g.defineAllocate key).1 := by
  unfold defineAllocate
  split
  · rfl
  · split
    · rfl
    next h => exact (allocate_rest h).trans rfl

theorem startRequest_rest (g : GlyphTable) (q : GlyphRequest) : g.Rest (g.startRequest q).1 := by
  unfold startRequest
  split
  · split
    · split <;> rfl
    · split
      · exact g.defineInPlace_rest _
      · exact g.hit_rest _ _
  · split
    · exact g.defineAllocate_rest _
    · split
      · rfl
      next h => exact (allocate_rest h).trans rfl

theorem startRequests_rest (k : Nat) (g : GlyphTable) : g.Rest (startRequests k g).1 := by
  induction k generalizing g with
  | zero => exact .refl g
  | succ k ih =>
    unfold startRequests
    split
    next q rest _ hqueue =>
      have hstart := startRequest_rest { g with queue := rest } q
      exact (Rest.trans (g' := { g with queue := rest }) rfl hstart).trans (ih _)
    next => exact .refl g

theorem request_rest (g : GlyphTable) (q : GlyphRequest) : g.Rest (g.request q).1 :=
  Rest.trans (g' := { g with queue := g.queue ++ [q] }) rfl (startRequests_rest _ _)

theorem lookupMapped_rest (g : GlyphTable) (who : Requester) (n : SlotId) : g.Rest (g.lookupMapped who n).1 := by
  unfold lookupMapped
  split
  · rfl
  · exact g.hit_rest who n

theorem lookup_rest (g : GlyphTable) (who : Requester) (f : FaceId) (code : Half) : g.Rest (g.lookup who f code).1 := by
  unfold lookup
  dsimp only
  split
  · rfl
  · split
    · exact g.lookupMapped_rest who _
    · split
      · exact g.request_rest _
      · split
        · exact g.lookupMapped_rest who _
        · split
          · exact g.request_rest _
          · rfl

end

end GlyphTable

/-! ### Answers of a handling -/

/-- The state after a handling that answers the entry of ring `r` which it found in service. -/
theorem State.putBlocks_answered {s : State} {r : RingId} {b : Blocks} (hsilent : b.outbox = [])
    (hawaits : (s.ring r).awaitsAnswer = true) (a : Answer) : s.putBlocks (b.answer r a) =
      ((((s.withGlyph b.glyph).withLane b.lane).withRaster b.raster).withSurfaces b.surfaces).withTransit
        { s.transit with answers := update s.transit.answers r (some a) } := by
  unfold State.putBlocks
  simp only [Blocks.answer, hsilent, List.nil_append, State.deliver_single]
  exact if_pos hawaits

/-! ### Edits that end (R41 to R44) -/

namespace Blocks

variable {b : Blocks} {v : LaneService} {span : ReadSpan}

/-- A WRITE or INSERT commits its staged cells. -/
theorem commitEdit_of_place {k : Lane} {leaving : List TextCell} (hedit : v.edit ≠ .refresh)
    (hplace : placeCells (b.laneAt v.lane) v.edit (b.lane.staging.map StagedCell.cell) = (k, leaving)) :
    b.commitEdit v = ({ b with
        glyph := b.glyph.unpinAll (leaving.map TextCell.slot)
        lane := { b.lane with
          lanes := update b.lane.lanes v.lane (k.adjust (b.advanceOf (b.laneAt v.lane)))
          staging := [], service := none } } : Blocks).laneAnswer v.ring
      (editAnswer v.dropped (missingCount (b.lane.staging.map StagedCell.cell))) := by
  cases h : v.edit with
  | refresh => exact absurd h hedit
  | write | insert =>
    rw [h] at hplace
    simp only [commitEdit, h, hplace]
    rfl

/-- A bus error of the read abandons the edit. -/
theorem cellListRead_of_busError (hservice : b.lane.service = some v) (hread : v.read = some span) :
    b.cellListRead .busError = ({ b with
        glyph := (if v.current = none then b.glyph else b.glyph.withdraw .laneEdit).unpinAll
          (b.lane.staging.map fun c => c.cell.slot)
        lane := { b.lane with staging := [], service := none } } : Blocks).laneAnswer v.ring (.failed .busError) := by
  simp only [cellListRead, hservice, hread, Option.isNone_some, Bool.false_eq_true, if_false, abandonEdit, dropStaging]
  cases hcurrent : v.current <;> simp

/-- Records delivered while a lookup is outstanding wait their turn. -/
theorem cellListRead_of_delivers {bytes : List Byte} (hservice : b.lane.service = some v) (hread : v.read = some span)
    (hcurrent : v.current ≠ none) : b.cellListRead (.delivers bytes) =
      ({ b with lane := { b.lane with service := some { v with
        todo := v.todo ++ (cellsOf v.undelivered bytes).map fun c => ⟨c, 0⟩
        undelivered := v.undelivered - (cellsOf v.undelivered bytes).length } } }, []) := by
  simp only [cellListRead, hservice, hread, Option.isNone_some, Bool.false_eq_true, if_false]
  exact stepEdit_of_current hcurrent

/-- The last record of a read is looked up. -/
theorem cellListRead_of_last {bytes : List Byte} {g : GlyphTable} {tasks : List Task}
    (hservice : b.lane.service = some v) (hread : v.read = some span) (hcurrent : v.current = none)
    (htodo : v.todo = []) (hundelivered : v.undelivered = 1)
    (hlooked : b.glyph.lookup .laneEdit (b.laneAt v.lane).settings.face (cellAt bytes 0).code = (g, tasks)) :
    b.cellListRead (.ends bytes) = ({ b with
      glyph := g
      lane := { b.lane with service := some { v with
        todo := [], undelivered := 0, read := none, current := some ⟨cellAt bytes 0, 0⟩ } } }, tasks) := by
  simp only [cellListRead, hservice, hread, Option.isNone_some, Bool.false_eq_true, if_false, htodo, hundelivered]
  exact stepEdit_of_todo hcurrent rfl hlooked

end Blocks

/-! ### The row of the cell-list read -/

section

variable {s : State} {v : LaneService} {span : ReadSpan} {read : CellRead}

theorem exec_cellListReadEnd (hpart : s.part ≠ .resetting) (hservice : s.lane.service = some v)
    (hread : v.read = some span) :
    exec (.cellListReadEnd false read) s = .next (s.runBlocks fun b => b.cellListRead read) := by
  have hreading : s.lane.reading = true := by simp [LaneUnit.reading, hservice, hread]
  show execCellListReadEnd false read s = _
  simp only [execCellListReadEnd, State.quiesce_eq hpart, hreading, Bool.false_eq_true, if_false, if_true]

theorem exec_cellListReadEnd_abandoned (hpart : s.part ≠ .resetting) :
    exec (.cellListReadEnd true read) s = .next (s.dropCellRead read) := by
  show execCellListReadEnd true read s = _
  simp only [execCellListReadEnd, State.quiesce_eq hpart, if_true]

end

/-- A handling whose one task answers a lane entry, with no other entry waiting. -/
theorem State.runBlocks_laneSettles {s : State} {f : Blocks → Blocks × List Task} {b b' : Blocks} {t : Task}
    {r : RingId} {a : Answer} (h : f s.blocks = (b, [t])) (ht : b.doTask t = b'.laneAnswer r a)
    (hentries : b'.lane.entries = []) : s.runBlocks f = s.putBlocks (b'.answer r a) :=
  State.runBlocks_of_settles h (.cons ht (.laneTake (b := b'.answer r a) hentries)) (by decide)

/-- Settles O55: the read's three endings, and the commit of the last record by `Blocks.commitEdit_of_place`. -/
theorem cellListReadEndStagesAndCommits : Obligations.CellListReadEndStagesAndCommits := by
  refine ⟨?_, fun s bytes hpart => ⟨exec_cellListReadEnd_abandoned hpart, exec_cellListReadEnd_abandoned hpart⟩⟩
  intro s v span hpart hservice hread hentries hawaits g answered
  refine ⟨?_, fun bytes hcurrent hlength => ?_, ?_⟩
  · rw [exec_cellListReadEnd hpart hservice hread,
      State.runBlocks_laneAnswer (Blocks.cellListRead_of_busError (b := s.blocks) hservice hread) (.inr hentries),
      State.putBlocks_answered rfl hawaits]
    rfl
  · intro n
    have hcells : cellsOf v.undelivered bytes = (List.range n).map (cellAt bytes) := by
      rw [cellsOf, Nat.min_eq_right (by omega)]
    rw [exec_cellListReadEnd hpart hservice hread,
      State.runBlocks_nil (Blocks.cellListRead_of_delivers (b := s.blocks) hservice hread hcurrent),
      State.putBlocks_of_silent _ rfl, hcells, List.map_map, List.length_map, List.length_range]
    rfl
  · intro bytes g answer slot hcurrent htodo hundelivered hedit k hlooked hslot cells missing committed
    have hstaged : Blocks.stagedSlot answer = slot ∧ answer ≠ .busError := by
      rcases hslot with ⟨n, rfl, rfl⟩ | ⟨rfl | rfl | rfl, rfl⟩ <;> exact ⟨rfl, nofun⟩
    have hlast := Blocks.cellListRead_of_last (b := s.blocks) hservice hread hcurrent htodo hundelivered hlooked
    have hfaces : g.faces = s.glyph.faces := by
      have h := (s.glyph.lookup_rest .laneEdit k.settings.face (cellAt bytes 0).code).faces
      rwa [hlooked] at h
    have hcommits {leaving : List TextCell} {k' : Lane} (hplace : Blocks.placeCells k v.edit cells = (k', leaving)) :
        exec (.cellListReadEnd false (.ends bytes)) s = .next (answered ((s.withGlyph
          (GlyphTable.unpinAll (leaving.map TextCell.slot) g)).withLane { s.lane with
            lanes := update s.lane.lanes v.lane (k'.adjust (s.advanceOf k)), staging := [], service := none })
          (if v.dropped = 0 ∧ missing = 0 then .done else .partially v.dropped missing)) := by
      let b : Blocks := { s.blocks with
        glyph := g
        lane := { s.lane with service := some { v with
          todo := [], undelivered := 0, read := none, current := some ⟨cellAt bytes 0, 0⟩ } } }
      let staged : Blocks := { b with lane := { b.lane with
        staging := s.lane.staging ++ [⟨{ cellAt bytes 0 with slot := slot }, 0⟩] } }
      have hcells : staged.lane.staging.map StagedCell.cell = cells := by simp [staged, cells]
      have hadvance : staged.advanceOf (staged.laneAt v.lane) = s.advanceOf k :=
        congrArg (fun faces : Vector Face 8 => (faces[k.settings.face]).advance) hfaces
      have hanswered : b.doTask (.answered .laneEdit answer) = staged.stepEdit { v with
          todo := [], undelivered := 0, read := none, current := none } :=
        (Blocks.laneAnswered_of_staged (b := b) rfl rfl hstaged.2).trans (by rw [hstaged.1])
      have hcommit := Blocks.commitEdit_of_place (b := staged) (v := { v with
          todo := [], undelivered := 0, read := none, current := none })
        (fun h => by rcases hedit with h' | h' <;> exact nomatch h'.symm.trans h) ((congrArg _ hcells).trans hplace)
      rw [exec_cellListReadEnd hpart hservice hread, State.runBlocks_laneSettles (by exact hlast)
        (hanswered.trans ((Blocks.stepEdit_of_end rfl rfl rfl rfl).trans hcommit)) hentries,
        State.putBlocks_answered rfl hawaits, hcells, hadvance]
      rfl
    refine ⟨fun hwrite => hcommits (by rw [hwrite]; rfl), fun hinsert => hcommits (by rw [hinsert]; rfl)⟩

end Sys2Proof.Machine
end


section
/-! PROOFS. TEXT (section 6.9): the code list, the lookups of its codes, and the places of its stamps that take a
transfer. -/

namespace Sys2Proof.Machine

/-! ### The places that take a transfer (R112, R113, R124) -/

namespace Work

variable {k : Work} {bits : Half} {c x y r n : Nat}

theorem seekColumn_eq_some_iff : k.seekColumn bits c = some x ↔
    c ≤ x ∧ x < k.area.columns ∧ k.wanted bits x = true ∧ ∀ j, c ≤ j → j < x → k.wanted bits j = false := by
  unfold seekColumn
  rw [List.find?_range_eq_some]
  simp only [Bool.and_eq_true, decide_eq_true_eq, List.mem_range, Bool.not_eq_true']
  constructor
  · rintro ⟨⟨hle, hwanted⟩, hlt, hbefore⟩
    exact ⟨hle, hlt, hwanted, fun j hj hjx => by simpa [hj] using hbefore j hjx⟩
  · rintro ⟨hle, hlt, hwanted, hbefore⟩
    refine ⟨⟨hle, hwanted⟩, hlt, fun j hjx => ?_⟩
    by_cases hj : c ≤ j
    · simp [hj, hbefore j hj hjx]
    · simp [hj]

theorem seekColumn_eq_none_iff : k.seekColumn bits c = none ↔
    ∀ j, c ≤ j → j < k.area.columns → k.wanted bits j = false := by
  unfold seekColumn
  rw [List.find?_eq_none]
  simp only [List.mem_range, Bool.and_eq_true, decide_eq_true_eq, not_and, Bool.not_eq_true]
  exact ⟨fun h j hj hlt => h j hlt hj, fun h j hlt hj => h j hj hlt⟩

/-- A row without a pixel that takes a transfer. -/
theorem blank_iff : k.seekColumn bits 0 = none ↔ ∀ j < k.area.columns, k.wanted bits j = false :=
  seekColumn_eq_none_iff.trans ⟨fun h j hj => h j (Nat.zero_le j) hj, fun h j _ hj => h j hj⟩

/-- The rows are searched one after the other. -/
theorem seekRow_of_row (hy : r ≤ y) (hyn : y < r + n) (hx : k.seekColumn (k.rowBits y) 0 = some x)
    (hbefore : ∀ i, r ≤ i → i < y → k.seekColumn (k.rowBits i) 0 = none) : k.seekRow n r = some (y, x) := by
  induction n generalizing r with
  | zero => omega
  | succ n ih =>
    rcases Nat.eq_or_lt_of_le hy with rfl | hlt
    · rw [seekRow, hx]
    · rw [seekRow, hbefore r le_rfl hlt]
      exact ih hlt (by omega) fun i hi hiy => hbefore i (by omega) hiy

theorem seekRow_of_blank (h : ∀ i, r ≤ i → i < r + n → k.seekColumn (k.rowBits i) 0 = none) : k.seekRow n r = none := by
  induction n generalizing r with
  | zero => rfl
  | succ n ih =>
    rw [seekRow, h r le_rfl (by omega)]
    exact ih fun i hi hin => h i (by omega) (by omega)

theorem wanted_of_text (h : k.args.kind = .text) (bits : Half) (c : Nat) :
    k.wanted bits c = (k.inkRole bits c || k.args.paperClear != some true) := by
  rw [wanted, h]

theorem firstTransfer_of_text (h : k.args.kind = .text) (bits : Half) (r c : Nat) :
    k.firstTransfer bits r c =
      k.destTransfer r c (k.colour (if k.inkRole bits c then k.args.ink else k.args.paper)) := by
  rw [firstTransfer, h]

/-- A missing glyph has no ink. -/
theorem inkRole_of_no_bitmap (h : k.bitmap = none) (bits : Half) (c : Nat) : k.inkRole bits c = false := by
  simp [inkRole, h]

end Work

/-! ### The rectangle of a stamp (R124) -/

namespace Blocks

variable {b : Blocks} {c : Claim} {d : SurfaceId} {f : FaceId}

theorem work_column_of_text (hkind : c.entry.rasterArgs.kind = .text) (j : Nat) :
    (b.work c).column j = (b.work c).area.x0 + j := by
  have hright : (b.work c).rightToLeft = false := by simp [work, hkind, RasterKind.hasSource]
  simp [Work.column, hright]

theorem work_row_of_text (hkind : c.entry.rasterArgs.kind = .text) (i : Nat) :
    (b.work c).row i = (b.work c).area.y0 + i := by
  have hbottom : (b.work c).bottomToTop = false := by simp [work, hkind, RasterKind.hasSource]
  simp [Work.row, hbottom]

theorem work_dx_of_text (hkind : c.entry.rasterArgs.kind = .text) :
    (b.work c).dx = c.entry.rasterArgs.dx + b.raster.codeIndex * b.raster.metrics.advance := if_pos hkind

theorem work_area_of_text (hkind : c.entry.rasterArgs.kind = .text) : (b.work c).area =
    admitted (b.surface c.entry.rasterArgs.dst).clip
      (c.entry.rasterArgs.dx + b.raster.codeIndex * b.raster.metrics.advance) c.entry.rasterArgs.dy
      b.raster.metrics.advance b.raster.metrics.height := by
  simp [work, hkind]

/-- The bitmap row of a stamp that a row of its rectangle shows; a missing glyph has none. -/
theorem work_rowBits_of_stamp {slot : Option SlotId} (i : Nat) : b.raster.stamp = some ⟨slot⟩ →
    (b.work c).rowBits i = match slot with
      | some n => b.glyph.slots[n].bitmap.toArray.getD (((b.work c).row i : Int) - c.entry.rasterArgs.dy).toNat 0
      | none => 0 := by
  intro hstamp
  have hbitmap : (b.work c).bitmap = slot.map fun n => b.glyph.slots[n].bitmap := by
    show (b.raster.stamp.bind Stamp.slot).map _ = _
    rw [hstamp]
    rfl
  rw [Work.rowBits, hbitmap]
  cases slot <;> rfl

/-- A stamp's pixel has ink where its bitmap has 1, in the columns of the glyph. -/
theorem work_inkRole_of_stamp {slot : Option SlotId} (hstamp : b.raster.stamp = some ⟨slot⟩) (bits : Half) (j : Nat) :
    (b.work c).inkRole bits j = (slot.isSome &&
      decide (((((b.work c).column j : Int) - (b.work c).dx).toNat) <
        min b.raster.metrics.width b.raster.metrics.advance) &&
      bits.getMsbD (((b.work c).column j : Int) - (b.work c).dx).toNat) := by
  have hbitmap : (b.work c).bitmap.isSome = slot.isSome := by
    show ((b.raster.stamp.bind Stamp.slot).map _).isSome = _
    rw [hstamp, Option.isSome_map]
    rfl
  rw [Work.inkRole, hbitmap]
  rfl

/-! ### The course of a TEXT (R122 to R126) -/

theorem drawRows_of_row {r y x : Nat} (h : (b.work c).seekRow ((b.work c).area.rows - r) r = some (y, x)) :
    b.drawRows c r = ({ b with raster := { b.raster with
      step := .drawing
      drawing := some ⟨y, x, (b.work c).rowBits y,
        (b.work c).firstTransfer ((b.work c).rowBits y) y x⟩ } }, []) := by
  simp only [drawRows, h]

theorem drawRows_of_none {r : Nat} (h : (b.work c).seekRow ((b.work c).area.rows - r) r = none) :
    b.drawRows c r = b.endArea c := by
  simp only [drawRows, h]

theorem endArea_of_text (hkind : c.entry.rasterArgs.kind = .text) : b.endArea c = b.endStamp c := by
  simp only [endArea, hkind]

/-- A code that is due is looked up (R123). -/
theorem lookupCode_eq {g : GlyphTable} {tasks : List Task} (hface : c.entry.rasterArgs.face = some f)
    (hlooked : b.glyph.lookup .text f (b.raster.codes.getD b.raster.codeIndex 0) = (g, tasks)) : b.lookupCode c =
      ({ b with
        glyph := g
        raster := { b.raster with step := .lookingUp, stamp := none, drawing := none } }, tasks) := by
  simp only [lookupCode, hface, hlooked, onGlyph]

theorem textAnswered_of_slot {n : SlotId} (hservice : b.raster.service = some c) : b.textAnswered (.slot n) =
    ({ b with raster := { b.raster with stamp := some ⟨some n⟩ } } : Blocks).drawRows c 0 := by
  simp only [textAnswered, hservice]

/-- An answer without a slot makes a missing glyph (R123). -/
theorem textAnswered_of_missing {a : LookupAnswer} (hservice : b.raster.service = some c)
    (ha : a = .missing ∨ a = .noSlot ∨ a = .notSet) : b.textAnswered a =
      ({ b with raster := { b.raster with
        stamp := some ⟨none⟩, missing := b.raster.missing + 1 } } : Blocks).drawRows c 0 := by
  rcases ha with rfl | rfl | rfl <;> simp only [textAnswered, hservice]

/-- The last stamp ends the TEXT (R126). -/
theorem endStamp_of_last (h : b.raster.codes.length ≤ b.raster.codeIndex + 1) :
    b.endStamp c = b.unpinStamp.endOperation c (textAnswer b.raster.missing) := by
  simp only [endStamp, Nat.not_lt.mpr h, if_false]

theorem unpinStamp_of_no_slot (h : b.raster.stamp.bind Stamp.slot = none) : b.unpinStamp = b := by
  unfold unpinStamp
  split
  next n hstamp => simp [hstamp] at h
  all_goals rfl

end Blocks

/-! ### The marks of a TEXT -/

/-- One surface named: its mark alone is set or cleared. -/
theorem markedSurfaces_single (v : Vector Surface 16) (d : SurfaceId) (m : Bool) :
    markedSurfaces v (some d) none m = update v d { v[d.1] with mark := m } := by
  refine Vector.ext fun i hi => ?_
  refine (markedSurfaces_get v (some d) none m ⟨i, hi⟩).trans ((update_get v d ⟨i, hi⟩ _).symm ▸ ?_)
  by_cases h : (⟨i, hi⟩ : SurfaceId) = d
  · subst h
    simp
  · simp [h, Ne.symm h]

/-- TEXT names no source surface. -/
theorem WorkEntry.rasterArgs_of_text {e : WorkEntry} (h : e.kind = some .text) :
    e.rasterArgs.kind = .text ∧ e.rasterArgs.src = none := by
  have hargs : e.rasterArgs = e.textArgs := by simp only [WorkEntry.rasterArgs, h]
  exact hargs ▸ ⟨rfl, rfl⟩

/-! ### The end of the code-list read (R122) -/

section

variable {s : State} {c : Claim} {span : ReadSpan} {read : ReadEnd}

theorem exec_codeListReadEnd (hpart : s.part ≠ .resetting) (hservice : s.raster.service = some c)
    (hread : s.raster.codeRead = some span) :
    exec (.codeListReadEnd read) s = .next (s.runBlocks fun b => b.codesRead c read) := by
  show execCodeListReadEnd read s = _
  simp only [execCodeListReadEnd, State.quiesce_eq hpart, hservice, hread]

theorem exec_codeListReadEnd_abandoned (hpart : s.part ≠ .resetting) (hread : s.raster.codeRead = none) :
    exec (.codeListReadEnd read) s =
      .next (s.withRaster { s.raster with lostReads := s.raster.lostReads.tail }) := by
  have hdropped : execCodeListReadEnd read s = .next s.dropCodeRead := by
    cases hservice : s.raster.service <;> simp only [execCodeListReadEnd, State.quiesce_eq hpart, hservice, hread]
  exact hdropped

/-- With no claim waiting nothing follows the end of an operation. -/
theorem Blocks.Settles.endOperation {b : Blocks} (hclaims : b.raster.claims = []) (c : Claim) (a : Answer) :
    Blocks.Settles 1 (b.endOperation c a).2 (b.endOperation c a).1 (b.endOperation c a).1 := by
  rw [Blocks.endOperation_eq]
  exact .rasterTake hclaims

theorem State.putBlocks_endOperation {b : Blocks} (hclaims : b.raster.claims = []) (hsilent : b.outbox = [])
    (hawaits : (s.ring c.ring).awaitsAnswer = true) (a : Answer) : s.putBlocks (b.endOperation c a).1 =
      ((((s.withGlyph b.glyph).withLane b.lane).withSurfaces
        (markedSurfaces b.surfaces c.entry.rasterArgs.dst c.entry.rasterArgs.src false)).withRaster
          { RasterEngine.idle with lostReads := b.raster.lostReads }).withTransit
            { s.transit with answers := update s.transit.answers c.ring (some a) } := by
  rw [Blocks.endOperation_eq, State.putBlocks_answered (by exact hsilent) hawaits, hclaims]
  rfl

end

/-! ### The first place of a stamp (R112, R113, R124) -/

/-- The scissor of a stamp whose left edge lies at `left`. -/
def StampAdmits (a : RasterArgs) (dst : Surface) (m : FaceMetrics) (left : Int) (x y : Nat) : Prop :=
  (left ≤ x ∧ x ≤ left + m.advance - 1) ∧ (a.dy ≤ y ∧ y ≤ a.dy + m.height - 1) ∧
    ∃ clip, dst.clip = some clip ∧ (clip.x0 ≤ x ∧ x ≤ clip.x1) ∧ clip.y0 ≤ y ∧ y ≤ clip.y1

/-- The transfer that a stamp's pixel in the bitmap row `bits` takes first. -/
def stampTransfer (a : RasterArgs) (dst : Surface) (m : FaceMetrics) (mix : Mix) (left : Int) (bits : Half)
    (x y : Nat) : RasterTransfer :=
  let u := ((x : Int) - left).toNat
  let value := (if u < min m.width m.advance ∧ bits.getMsbD u = true then a.ink else a.paper) &&& depthMask dst.depth
  { kind := if mix = .replace ∧ 8 ≤ dst.depth then .destWrite value else .destRead value,
    space := dst.space, addr := dst.base.toNat + y * dst.pitch + x * dst.depth / 8 }

/-- A stamp whose paper is drawn begins at the first pixel that the scissor admits. -/
theorem Blocks.drawRows_of_stamp {b : Blocks} {c : Claim} {dst : Surface} {mix : Mix} {left : Int}
    {n : SlotId} {x y : Nat} {bits : Half}
    (hkind : c.entry.rasterArgs.kind = .text) (hdst : b.surface c.entry.rasterArgs.dst = dst)
    (hmix : c.entry.rasterArgs.mix = some mix)
    (hclear : c.entry.rasterArgs.paperClear = some false) (hstamp : b.raster.stamp = some ⟨some n⟩)
    (hleft : c.entry.rasterArgs.dx + (b.raster.codeIndex : Int) * b.raster.metrics.advance = left)
    (hbits : b.glyph.slots[n].bitmap.toArray.getD ((y : Int) - c.entry.rasterArgs.dy).toNat 0 = bits)
    (hxy : StampAdmits c.entry.rasterArgs dst b.raster.metrics left x y)
    (hfirst : ∀ x' y', StampAdmits c.entry.rasterArgs dst b.raster.metrics left x' y' →
      x ≤ x' ∧ y ≤ y') :
    b.drawRows c 0 = ({ b with raster := { b.raster with
      step := .drawing, drawing := some ⟨0, 0, bits, stampTransfer c.entry.rasterArgs dst
        b.raster.metrics mix left bits x y⟩ } }, []) := by
  set k := b.work c
  have hkdx : k.dx = left := (work_dx_of_text hkind).trans hleft
  have hkmix : k.mix = mix := congrArg (fun o : Option Mix => o.getD .replace) hmix
  have hkdst : k.dst = dst := hdst
  have hplace (x y : Nat) :
      StampAdmits c.entry.rasterArgs dst b.raster.metrics left x y ↔
        (k.area.x0 ≤ x ∧ x < k.area.x0 + k.area.columns) ∧ (k.area.y0 ≤ y ∧ y < k.area.y0 + k.area.rows) ∧
          0 < k.area.columns ∧ 0 < k.area.rows := by
    have harea := work_area_of_text (b := b) hkind
    rw [hleft, hdst] at harea
    rw [show k.area = _ from harea]
    exact mem_admitted ..
  obtain ⟨hx, hy, hcolumns, hrows⟩ := (hplace x y).mp hxy
  have hcolumn : k.column 0 = x := by
    have hle := (hfirst k.area.x0 y ((hplace _ _).mpr (by omega))).1
    have hzero : k.column 0 = k.area.x0 + 0 := work_column_of_text hkind 0
    omega
  have hrow : k.row 0 = y := by
    have hle := (hfirst x k.area.y0 ((hplace _ _).mpr (by omega))).2
    have hzero : k.row 0 = k.area.y0 + 0 := work_row_of_text hkind 0
    omega
  have hwanted (bits : Half) (j : Nat) : k.wanted bits j = true := by
    rw [Work.wanted_of_text hkind, show k.args.paperClear = some false from hclear]
    exact Bool.or_true _
  have hrowBits : k.rowBits 0 = bits := by
    rw [work_rowBits_of_stamp 0 hstamp, show (b.work c).row 0 = y from hrow]
    exact hbits
  have hink : k.inkRole bits 0 = true ↔ ((x : Int) - left).toNat < min b.raster.metrics.width b.raster.metrics.advance ∧
      bits.getMsbD ((x : Int) - left).toNat = true := by
    rw [work_inkRole_of_stamp hstamp, show (b.work c).column 0 = x from hcolumn, show (b.work c).dx = left from hkdx]
    simp only [Option.isSome_some, Bool.true_and, Bool.and_eq_true, decide_eq_true_eq]
  have hseek := Work.seekRow_eq hwanted (k.area.rows - 0) 0
  rw [if_pos ⟨hrows, hcolumns⟩] at hseek
  rw [drawRows_of_row hseek, show (b.work c).rowBits 0 = bits from hrowBits,
    Work.firstTransfer_of_text hkind, Work.destTransfer_eq, show (b.work c).column 0 = x from hcolumn,
    show (b.work c).row 0 = y from hrow, show (b.work c).mix = mix from hkmix, Work.colour,
    show (b.work c).dst = dst from hkdst, if_congr hink rfl rfl]
  rfl

/-- Settles O50: the failing read, and the three answers of the first code's lookup. -/
theorem codeListReadEndLooksUpTheFirstCode : Obligations.CodeListReadEndLooksUpTheFirstCode := by
  refine ⟨?_, fun s read hpart hread => exec_codeListReadEnd_abandoned hpart hread⟩
  intro s c span f d mix a dst m hpart hraster hkind hface hdst hmix hcount hawaits ended
  obtain ⟨hkind', hsrc⟩ := WorkEntry.rasterArgs_of_text hkind
  have hservice : s.raster.service = some c := by rw [hraster]
  have hread : s.raster.codeRead = some span := by rw [hraster]
  have hclaims : s.raster.claims = [] := by rw [hraster]; rfl
  have hstamp : s.raster.stamp = none := by rw [hraster]; rfl
  have hdrawing : s.raster.drawing = none := by rw [hraster]; rfl
  have hindex : s.raster.codeIndex = 0 := by rw [hraster]; rfl
  have hmissing : s.raster.missing = 0 := by rw [hraster]; rfl
  have hmarks : markedSurfaces s.surfaces a.dst a.src false = update s.surfaces d { dst with mark := false } := by
    rw [hdst, hsrc]
    exact markedSurfaces_single s.surfaces d false
  refine ⟨?_, fun bytes => ?_⟩
  · have hfails : s.blocks.codesRead c .busError =
        ({ s.blocks with raster := { s.raster with codeRead := none } } : Blocks).endOperation c (.failed .busError) := by
      show Blocks.endOperation (Blocks.unpinStamp _) c _ = _
      rw [Blocks.unpinStamp_of_no_slot]
      · rfl
      · exact congrArg (·.bind Stamp.slot) hstamp
    rw [exec_codeListReadEnd hpart hservice hread,
      State.runBlocks_of_settles hfails (.endOperation (by exact hclaims) c _) (by decide),
      State.putBlocks_endOperation (by exact hclaims) rfl hawaits]
    show Host.Outcome.next (((((s.withGlyph s.glyph).withLane s.lane).withSurfaces
      (markedSurfaces s.surfaces a.dst a.src false)).withRaster _).withTransit _) = _
    rw [hmarks]
    rfl
  · intro command engine looked admits
    let coded : Blocks := { s.blocks with raster := { s.raster with
      codeRead := none, codes := halvesOf a.count bytes, codeIndex := 0 } }
    have hcode : coded.raster.codes.getD coded.raster.codeIndex 0 = byteAt bytes 1 ++ byteAt bytes 0 := by
      show (halvesOf a.count bytes).getD 0 0 = _
      rw [halvesOf, List.getD_eq_getElem?_getD, List.getElem?_map, List.getElem?_range hcount]
      rfl
    have hengine : ({ coded.raster with step := .lookingUp, stamp := none, drawing := none } : RasterEngine) = engine := by
      simp only [engine, coded, hindex, hstamp, hdrawing]
      rfl
    have hlookup {g : GlyphTable} {tasks : List Task} (h : looked = (g, tasks)) :
        s.blocks.codesRead c (.ok bytes) = ({ s.blocks with glyph := g, raster := engine }, tasks) := by
      have := Blocks.lookupCode_eq (b := coded) (c := c) (g := g) (tasks := tasks) hface (by rw [hcode]; exact h)
      rw [hengine] at this
      exact this
    refine ⟨fun g h => ?_, fun g n x y h hclear hxy hfirst => ?_, fun g answer hanswer h hone hclear => ?_⟩
    · refine (exec_codeListReadEnd hpart hservice hread).trans (congrArg _ ?_)
      rw [State.runBlocks_nil (hlookup h), State.putBlocks_of_silent _ rfl]
      rfl
    · intro bits u ink value
      have hsurface : s.blocks.surface a.dst = dst := by
        rw [hdst]
        rfl
      have hleft : c.entry.rasterArgs.dx + (s.raster.codeIndex : Int) * m.advance = a.dx := by simp [a, hindex]
      have hdraws := Blocks.drawRows_of_stamp (b := { s.blocks with
          glyph := g, raster := { engine with stamp := some ⟨some n⟩ } }) (left := a.dx) hkind' hsurface hmix hclear rfl
        hleft rfl hxy hfirst
      have hanswered : ({ s.blocks with glyph := g, raster := engine } : Blocks).doTask (.answered .text (.slot n)) = _ :=
        (Blocks.textAnswered_of_slot hservice).trans hdraws
      refine (exec_codeListReadEnd hpart hservice hread).trans (congrArg _ ?_)
      rw [State.runBlocks_of_settles (hlookup h) (.cons hanswered (.nil _)) (by decide), State.putBlocks_of_silent _ rfl]
      rfl
    · let stamped : Blocks := { s.blocks with
        glyph := g, raster := { engine with stamp := some ⟨none⟩, missing := s.raster.missing + 1 } }
      have hwanted (bits : Half) (j : Nat) : (stamped.work c).wanted bits j = false := by
        rw [Work.wanted_of_text hkind', show (stamped.work c).args.paperClear = some true from hclear,
          Blocks.work_inkRole_of_stamp (b := stamped) (slot := none) rfl]
        rfl
      have hends : stamped.drawRows c 0 = stamped.endOperation c (Blocks.textAnswer (s.raster.missing + 1)) := by
        rw [Blocks.drawRows_of_none (Work.seekRow_of_blank fun i _ _ => Work.blank_iff.mpr fun j _ => hwanted _ j),
          Blocks.endArea_of_text hkind', Blocks.endStamp_of_last, Blocks.unpinStamp_of_no_slot rfl]
        · show (List.map _ (List.range a.count)).length ≤ s.raster.codeIndex + 1
          rw [List.length_map, List.length_range, hone, hindex]
      have hanswered : ({ s.blocks with glyph := g, raster := engine } : Blocks).doTask (.answered .text answer) = _ :=
        (Blocks.textAnswered_of_missing hservice hanswer).trans hends
      refine (exec_codeListReadEnd hpart hservice hread).trans (congrArg _ ?_)
      rw [State.runBlocks_of_settles (hlookup h) (.cons hanswered (.endOperation (by exact hclaims) c _)) (by decide),
        State.putBlocks_endOperation (by exact hclaims) rfl hawaits, hmissing]
      show (((((s.withGlyph g).withLane s.lane).withSurfaces
        (markedSurfaces s.surfaces a.dst a.src false)).withRaster _).withTransit _) = _
      rw [hmarks]
      rfl

end Sys2Proof.Machine
end


section
/-! PROOFS. The end of a pixel transfer (sections 6.4 and 6.5): what the byte makes of the pixel in hand, the next pixel,
row or code, and the end of the operation. -/

namespace Sys2Proof.Machine

/-! ### The row of the pixel transfer -/

section

variable {s : State} {c : Claim} {d : Drawing} {read : ReadEnd} {byte : Byte}

theorem exec_rasterTransferEnd (hpart : s.part ≠ .resetting) (hservice : s.raster.service = some c)
    (hdrawing : s.raster.drawing = some d) : exec (.rasterTransferEnd read) s =
      if d.transfer.space = .loc ∧ 0x100000 ≤ d.transfer.addr then .fault (.outsideFrameMemory d.transfer.addr)
      else .next (s.endTransfer c d read) := by
  show execRasterTransferEnd read s = _
  simp only [execRasterTransferEnd, State.quiesce_eq hpart, hservice, hdrawing]
  rfl

/-- The byte that a transfer without error returns (R92). -/
def RasterTransfer.Returns (t : RasterTransfer) (m : Memory) (read : ReadEnd) (byte : Byte) : Prop :=
  (t.space = .loc ∧ t.addr < 0x100000 ∧ byte = m.read t.addr) ∨
    (t.space = .host ∧ ∃ bytes, read = .ok bytes ∧ byte = byteAt bytes 0)

/-- A transfer that ends without error stores its byte and hands the byte it read to the engine (R112). -/
theorem exec_rasterTransferEnd_of_byte (hpart : s.part ≠ .resetting) (hservice : s.raster.service = some c)
    (hdrawing : s.raster.drawing = some d) (hbyte : d.transfer.Returns s.frameMemory read byte) :
    exec (.rasterTransferEnd read) s =
      .next ((s.withFrameMemory (d.transfer.stored s.frameMemory)).runBlocks fun b => b.transferEnded c d byte) := by
  rw [exec_rasterTransferEnd hpart hservice hdrawing]
  rcases hbyte with ⟨hspace, haddr, rfl⟩ | ⟨hspace, bytes, rfl, rfl⟩
  · rw [if_neg (by omega), State.endTransfer, if_neg (by simp [RasterTransfer.errs, hspace])]
    simp only [RasterTransfer.byte, hspace]
  · rw [if_neg (by simp [hspace]), State.endTransfer, if_neg (by simp [RasterTransfer.errs])]
    simp only [RasterTransfer.byte, hspace]

/-- A bus error of a HOST transfer (R114). -/
theorem exec_rasterTransferEnd_of_busError (hpart : s.part ≠ .resetting) (hservice : s.raster.service = some c)
    (hdrawing : s.raster.drawing = some d) (hspace : d.transfer.space = .host) :
    exec (.rasterTransferEnd .busError) s = .next (s.runBlocks fun b => b.transferFailed c) := by
  rw [exec_rasterTransferEnd hpart hservice hdrawing, if_neg (by simp [hspace]), State.endTransfer,
    if_pos (by simp [RasterTransfer.errs, hspace])]

end

/-- Only a byte written to a LOCAL surface is stored (R92). -/
theorem RasterTransfer.stored_of_read {t : RasterTransfer} (h : ∀ byte, t.kind ≠ .destWrite byte) (m : Memory) :
    t.stored m = m := by
  unfold RasterTransfer.stored
  split
  next byte _ hkind => exact absurd hkind (h byte)
  next => rfl

theorem RasterTransfer.stored_of_host {t : RasterTransfer} (h : t.space = .host) (m : Memory) : t.stored m = m := by
  simp only [RasterTransfer.stored, h]

/-! ### What the byte makes of the pixel in hand (R112) -/

namespace Blocks

variable {b : Blocks} {c : Claim} {d : Drawing} {byte : Byte}

theorem transferEnded_of_value {value : Byte} (hkind : d.transfer.kind = .sourceRead)
    (hvalue : (b.work c).sourceValue d.column byte = some value) : b.transferEnded c d byte =
      ({ b with raster := { b.raster with
        drawing := some { d with transfer := (b.work c).destTransfer d.row d.column value } } }, []) := by
  simp only [transferEnded, hkind, hvalue]

theorem transferEnded_of_no_value (hkind : d.transfer.kind = .sourceRead)
    (hvalue : (b.work c).sourceValue d.column byte = none) : b.transferEnded c d byte = b.nextPixel c d := by
  simp only [transferEnded, hkind, hvalue]

theorem transferEnded_of_destRead {value : Byte} (hkind : d.transfer.kind = .destRead value) :
    b.transferEnded c d byte = ({ b with raster := { b.raster with
      drawing := some { d with transfer := { d.transfer with
        kind := .destWrite ((b.work c).writtenByte d.column value byte) } } } }, []) := by
  simp only [transferEnded, hkind]

theorem transferEnded_of_destWrite {stored : Byte} (hkind : d.transfer.kind = .destWrite stored) :
    b.transferEnded c d byte = b.nextPixel c d := by
  simp only [transferEnded, hkind]

/-! ### The next pixel (R113, R115, R125, R128) -/

theorem nextPixel_of_column {x : Nat} (h : (b.work c).seekColumn d.rowBits (d.column + 1) = some x) :
    b.nextPixel c d = ({ b with raster := { b.raster with
      drawing := some { d with
        column := x, transfer := (b.work c).firstTransfer d.rowBits d.row x } } }, []) := by
  simp only [nextPixel, h]

theorem nextPixel_of_finishing (h : (b.work c).seekColumn d.rowBits (d.column + 1) = none)
    (hfinishing : b.raster.finishing = true) : b.nextPixel c d = (b.finishAbandoned, []) := by
  simp only [nextPixel, h, hfinishing, if_true]

theorem nextPixel_of_row_done (h : (b.work c).seekColumn d.rowBits (d.column + 1) = none)
    (hfinishing : b.raster.finishing = false) : b.nextPixel c d = b.drawRows c (d.row + 1) := by
  simp only [nextPixel, h, hfinishing, Bool.false_eq_true, if_false]

theorem unpinStamp_of_stamp {slot : Option SlotId} : b.raster.stamp = some ⟨slot⟩ → b.unpinStamp =
    { b with glyph := match slot with
      | some n => b.glyph.unpin n
      | none => b.glyph } := by
  intro hstamp
  cases slot <;> simp only [unpinStamp, hstamp]

/-- An abandoned operation that has finished its row clears its marks (R128). -/
theorem finishAbandoned_of_service (hservice : b.raster.service = some c) : b.finishAbandoned =
    { b.unpinStamp with
      surfaces := markedSurfaces b.surfaces c.entry.rasterArgs.dst c.entry.rasterArgs.src false
      raster := { RasterEngine.idle with lostReads := b.raster.lostReads } } := by
  have hsurfaces : b.unpinStamp.surfaces = b.surfaces := by
    unfold unpinStamp
    split <;> rfl
  simp only [finishAbandoned, hservice, setMark_setMark, hsurfaces]

/-- Another code follows the stamp that ends (R125). -/
theorem endStamp_of_more (h : b.raster.codeIndex + 1 < b.raster.codes.length) : b.endStamp c =
    ({ b.unpinStamp with raster := { b.unpinStamp.raster with
      codeIndex := b.raster.codeIndex + 1, stamp := none } } : Blocks).lookupCode c := by
  simp only [endStamp, h, if_true]

theorem transferFailed_of_drawing (hfinishing : b.raster.finishing = false) :
    b.transferFailed c = b.unpinStamp.endOperation c (.failed .busError) := by
  simp only [transferFailed, failOperation, hfinishing, Bool.false_eq_true, if_false]

end Blocks

/-! ### The state after the handling -/

section

variable {s : State} {c : Claim} {f : Blocks → Blocks × List Task} {m : Memory}

/-- A handling that changes the engine alone. -/
theorem State.runBlocks_raster {e : RasterEngine} (h : f s.blocks = ({ s.blocks with raster := e }, [])) :
    (s.withFrameMemory m).runBlocks f = (s.withFrameMemory m).withRaster e := by
  rw [State.runBlocks_nil (by exact h), State.putBlocks_of_silent _ rfl]
  rfl

/-- A handling that changes the Glyph Table and the engine. -/
theorem State.runBlocks_glyph_raster {g : GlyphTable} {e : RasterEngine}
    (h : f s.blocks = ({ s.blocks with glyph := g, raster := e }, [])) :
    (s.withFrameMemory m).runBlocks f = ((s.withFrameMemory m).withGlyph g).withRaster e := by
  rw [State.runBlocks_nil (by exact h), State.putBlocks_of_silent _ rfl]
  rfl

/-- A handling that ends an abandoned operation. -/
theorem State.runBlocks_finishAbandoned (hservice : s.raster.service = some c)
    (h : f s.blocks = (s.blocks.finishAbandoned, [])) : (s.withFrameMemory m).runBlocks f =
      (((s.withFrameMemory m).withGlyph s.blocks.unpinStamp.glyph).withSurfaces
        (markedSurfaces s.surfaces c.entry.rasterArgs.dst c.entry.rasterArgs.src false)).withRaster
          { RasterEngine.idle with lostReads := s.raster.lostReads } := by
  rw [Blocks.finishAbandoned_of_service (b := s.blocks) hservice] at h
  obtain ⟨g, hg⟩ : ∃ g, s.blocks.unpinStamp = { s.blocks with glyph := g } := by
    unfold Blocks.unpinStamp
    split
    · exact ⟨_, rfl⟩
    · exact ⟨_, rfl⟩
    · exact ⟨_, rfl⟩
  rw [hg] at h ⊢
  rw [State.runBlocks_nil (by exact h), State.putBlocks_of_silent _ rfl]
  rfl

/-- A handling that ends the operation in service, its stamp unpinned, with no claim waiting. -/
theorem State.runBlocks_endOperation {g : GlyphTable} {a : Answer}
    (h : f s.blocks = ({ s.blocks with glyph := g } : Blocks).endOperation c a) (hclaims : s.raster.claims = [])
    (hawaits : (s.ring c.ring).awaitsAnswer = true) : (s.withFrameMemory m).runBlocks f =
      ((((s.withFrameMemory m).withGlyph g).withSurfaces
        (markedSurfaces s.surfaces c.entry.rasterArgs.dst c.entry.rasterArgs.src false)).withRaster
          { RasterEngine.idle with lostReads := s.raster.lostReads }).withTransit
            { s.transit with answers := update s.transit.answers c.ring (some a) } := by
  rw [State.runBlocks_of_settles (s := s.withFrameMemory m) (by exact h)
      (.endOperation (b := { s.blocks with glyph := g }) hclaims c _) (by decide),
    State.putBlocks_endOperation (s := s.withFrameMemory m) (b := { s.blocks with glyph := g }) hclaims rfl
      (by exact hawaits)]
  rfl

end

/-! ### FILL, COPY and EXPAND -/

/-- Settles O51: what the byte makes of the pixel in hand, and then the next place that takes a transfer. -/
theorem pixelTransfersDrawTheRectangle : Obligations.PixelTransfersDrawTheRectangle := by
  constructor
  · intro s c d hpart hservice hdrawing hclaims hstamp hkind hawaits a k x y t depth engine idle cleared ended
    have hnot : c.entry.rasterArgs.kind ≠ .text := by
      rcases hkind with h | h | h <;> simp [WorkEntry.rasterArgs, h, WorkEntry.fillArgs, WorkEntry.copyArgs,
        WorkEntry.expandArgs]
    have hcleared : cleared (markedSurfaces s.surfaces a.dst a.src false) := fun n =>
      markedSurfaces_false_get s.surfaces a.dst a.src n
    have hunpin : s.blocks.unpinStamp = s.blocks := Blocks.unpinStamp_of_no_slot (congrArg (·.bind Stamp.slot) hstamp)
    have hbitmap : k.bitmap = none := by
      show (s.raster.stamp.bind Stamp.slot).map _ = none
      rw [hstamp]
      rfl
    have hseek : k.seekColumn d.rowBits (d.column + 1) = if d.column + 1 < k.area.columns then some (d.column + 1) else none :=
      Work.seekColumn_eq (Work.wanted_of_not_text hnot _) _
    refine ⟨fun read hspace haddr => ?_, fun hspace hfinishing => ?_, ?_⟩
    · rw [exec_rasterTransferEnd hpart hservice hdrawing, if_pos ⟨hspace, haddr⟩]
    · refine ⟨_, hcleared, ?_⟩
      have hfails := Blocks.transferFailed_of_drawing (b := s.blocks) (c := c) hfinishing
      rw [hunpin] at hfails
      exact (exec_rasterTransferEnd_of_busError hpart hservice hdrawing hspace).trans
        (congrArg _ (State.runBlocks_endOperation (m := s.frameMemory) hfails hclaims hawaits))
    · intro read byte hbyte command
      have hexec := exec_rasterTransferEnd_of_byte hpart hservice hdrawing hbyte
      have hread (h : ∀ byte, t.kind ≠ .destWrite byte) : t.stored s.frameMemory = s.frameMemory :=
        RasterTransfer.stored_of_read h _
      have hraster {e : RasterEngine} (h : s.blocks.transferEnded c d byte = ({ s.blocks with raster := e }, [])) :
          command = .next ((s.withFrameMemory (t.stored s.frameMemory)).withRaster e) :=
        hexec.trans (congrArg _ (State.runBlocks_raster h))
      have hcolumn (h : s.blocks.transferEnded c d byte = s.blocks.nextPixel c d) (hlt : d.column + 1 < k.area.columns) :=
        hraster (h.trans (Blocks.nextPixel_of_column (hseek.trans (if_pos hlt))))
      have hfinishes (h : s.blocks.transferEnded c d byte = s.blocks.nextPixel c d) (hend : d.column + 1 = k.area.columns)
          (hfinishing : s.raster.finishing = true) : ∃ marks, cleared marks ∧ command =
            .next (((s.withFrameMemory (t.stored s.frameMemory)).withSurfaces marks).withRaster idle) := by
        refine ⟨_, hcleared, hexec.trans (congrArg _ ?_)⟩
        rw [State.runBlocks_finishAbandoned hservice
          (h.trans (Blocks.nextPixel_of_finishing (hseek.trans (if_neg (by omega))) hfinishing)), hunpin]
        rfl
      have hrow (h : s.blocks.transferEnded c d byte = s.blocks.nextPixel c d) (hend : d.column + 1 = k.area.columns)
          (hfinishing : s.raster.finishing = false) (hlt : d.row + 1 < k.area.rows) : command =
            .next ((s.withFrameMemory (t.stored s.frameMemory)).withRaster { s.raster with
              step := .drawing, drawing := some ⟨d.row + 1, 0, 0, k.firstTransfer 0 (d.row + 1) 0⟩ }) := by
        have hdraws := Blocks.drawRows_of_not_text (b := s.blocks) hnot (d.row + 1)
        rw [if_pos (by exact ⟨Nat.sub_pos_of_lt hlt, Nat.lt_of_lt_of_eq (Nat.succ_pos _) hend⟩), Work.rowBits_of_no_bitmap hbitmap] at hdraws
        exact hraster (h.trans ((Blocks.nextPixel_of_row_done (hseek.trans (if_neg (by omega))) hfinishing).trans hdraws))
      have hends (h : s.blocks.transferEnded c d byte = s.blocks.nextPixel c d) (hend : d.column + 1 = k.area.columns)
          (hfinishing : s.raster.finishing = false) (hlast : d.row + 1 = k.area.rows) :
          ended (t.stored s.frameMemory) .done command := by
        have hdraws := Blocks.drawRows_of_not_text (b := s.blocks) hnot (d.row + 1)
        rw [if_neg (by exact fun hroom => (Nat.sub_pos_iff_lt.mp hroom.1).ne hlast)] at hdraws
        exact ⟨_, hcleared, hexec.trans (congrArg _ (State.runBlocks_endOperation (h.trans
          ((Blocks.nextPixel_of_row_done (hseek.trans (if_neg (by omega))) hfinishing).trans hdraws)) hclaims hawaits))⟩
      refine ⟨fun value hsource hvalue => ?_, fun hsource hnone hlt => ?_, fun hsource hnone hend => ?_,
        fun value hdest => ?_, fun stored hdest => ?_⟩
      · have h := hraster (Blocks.transferEnded_of_value hsource hvalue)
        rw [hread (by rw [hsource]; exact nofun), Work.destTransfer_eq] at h
        exact h
      · have h := hcolumn (Blocks.transferEnded_of_no_value hsource hnone) hlt
        rw [hread (by rw [hsource]; exact nofun)] at h
        exact h
      · have hnext := Blocks.transferEnded_of_no_value hsource hnone
        have hmemory : t.stored s.frameMemory = s.frameMemory := hread (by rw [hsource]; exact nofun)
        rw [hmemory] at hfinishes hrow hends
        exact ⟨hfinishes hnext hend, hrow hnext hend, hends hnext hend⟩
      · have h := hraster (Blocks.transferEnded_of_destRead hdest)
        rw [hread (by rw [hdest]; exact nofun)] at h
        exact h
      · have hnext := Blocks.transferEnded_of_destWrite (b := s.blocks) (c := c) (byte := byte) hdest
        refine ⟨fun hspace => RasterTransfer.stored_of_host hspace _, fun hspace hwf b => ?_, hcolumn hnext, hfinishes hnext,
          hrow hnext, hends hnext⟩
        have hstored : t.stored s.frameMemory = s.frameMemory.write t.addr stored := by
          simp only [RasterTransfer.stored, hspace, hdest]
        rw [hstored, Memory.read_write _ _ _ hwf]
  · intro s c d slot f hpart hservice hdrawing hstamp hclaims hkind hface hawaits a k t depth m columns rows rowBits ink
      wanted transfer unpinned engine idle cleared ended
    obtain ⟨hkind', -⟩ := WorkEntry.rasterArgs_of_text hkind
    have hcleared : cleared (markedSurfaces s.surfaces a.dst a.src false) := fun n =>
      markedSurfaces_false_get s.surfaces a.dst a.src n
    have hunpin : s.blocks.unpinStamp = { s.blocks with glyph := unpinned } := Blocks.unpinStamp_of_stamp hstamp
    have hcolumn (j : Nat) : k.column j = k.area.x0 + j := Blocks.work_column_of_text hkind' j
    have hrow (i : Nat) : k.row i = k.area.y0 + i := Blocks.work_row_of_text hkind' i
    have hink (bits : Half) (j : Nat) : k.inkRole bits j = ink bits j := by
      rw [Blocks.work_inkRole_of_stamp hstamp, show (s.blocks.work c).column j = _ from hcolumn j,
        Blocks.work_dx_of_text hkind']
      rfl
    have hwanted (bits : Half) (j : Nat) : k.wanted bits j = true ↔ wanted bits j := by
      rw [Work.wanted_of_text hkind', hink, Bool.or_eq_true, bne_iff_ne]
      exact Iff.rfl
    have hbits (i : Nat) : k.rowBits i = rowBits i := by
      rw [Blocks.work_rowBits_of_stamp i hstamp, show (s.blocks.work c).row i = _ from hrow i]
      rfl
    have htransfer (bits : Half) (i j : Nat) : k.firstTransfer bits i j = transfer bits i j := by
      rw [Work.firstTransfer_of_text hkind', Work.destTransfer_eq, hink, hcolumn, hrow]
      rfl
    refine ⟨fun hspace hfinishing => ?_, ?_⟩
    · refine ⟨_, hcleared, ?_⟩
      have hfails := Blocks.transferFailed_of_drawing (b := s.blocks) (c := c) hfinishing
      rw [hunpin] at hfails
      exact (exec_rasterTransferEnd_of_busError hpart hservice hdrawing hspace).trans
        (congrArg _ (State.runBlocks_endOperation (m := s.frameMemory) hfails hclaims hawaits))
    · intro read byte hbyte command
      have hexec := exec_rasterTransferEnd_of_byte hpart hservice hdrawing hbyte
      have hraster {e : RasterEngine} (h : s.blocks.transferEnded c d byte = ({ s.blocks with raster := e }, [])) :
          command = .next ((s.withFrameMemory (t.stored s.frameMemory)).withRaster e) :=
        hexec.trans (congrArg _ (State.runBlocks_raster h))
      refine ⟨fun value hdest => ?_, fun stored hdest => ?_⟩
      · have h := hraster (Blocks.transferEnded_of_destRead hdest)
        rw [RasterTransfer.stored_of_read (by rw [hdest]; exact nofun)] at h
        exact h
      · intro mem rowDone blank
        have hnext := Blocks.transferEnded_of_destWrite (b := s.blocks) (c := c) (byte := byte) hdest
        have hdone (h : rowDone) : k.seekColumn d.rowBits (d.column + 1) = none :=
          Work.seekColumn_eq_none_iff.mpr fun j hj hlt => Bool.eq_false_of_not_eq_true fun hw =>
            h j hj hlt ((hwanted _ _).mp hw)
        have hblank {i : Nat} (h : blank i) : k.seekColumn (k.rowBits i) 0 = none :=
          Work.blank_iff.mpr fun j hj => Bool.eq_false_of_not_eq_true fun hw =>
            h j hj ((hwanted _ _).mp (hbits i ▸ hw))
        refine ⟨fun x hstep hlt hx hw hbefore => ?_, fun hrow hfinishing => ?_,
          fun x y hrow hfinishing hlt hy hx hw hbefore hrows => ?_, fun g' hrow hfinishing hrows hmore hlooked => ?_,
          fun hrow hfinishing hrows hlast => ?_⟩
        · have hseek : k.seekColumn d.rowBits (d.column + 1) = some x :=
            Work.seekColumn_eq_some_iff.mpr ⟨hlt, hx, (hwanted _ _).mpr hw, fun j hj hjx =>
              Bool.eq_false_of_not_eq_true fun hw' => hbefore j hj hjx ((hwanted _ _).mp hw')⟩
          have h := hraster (hnext.trans (Blocks.nextPixel_of_column hseek))
          rw [show (s.blocks.work c).firstTransfer d.rowBits d.row x = _ from htransfer d.rowBits d.row x] at h
          refine h.trans (congrArg (fun e => Host.Outcome.next ((s.withFrameMemory mem).withRaster e)) ?_)
          exact congrArg (fun step => ({ s.raster with step := step, drawing := _ } : RasterEngine)) hstep
        · refine ⟨_, hcleared, hexec.trans (congrArg _ ?_)⟩
          rw [State.runBlocks_finishAbandoned hservice
            (hnext.trans (Blocks.nextPixel_of_finishing (hdone hrow) hfinishing)), hunpin]
        · have hseek : k.seekRow (k.area.rows - (d.row + 1)) (d.row + 1) = some (y, x) :=
            Work.seekRow_of_row hlt (by omega)
              (Work.seekColumn_eq_some_iff.mpr ⟨Nat.zero_le x, hx, (hwanted _ _).mpr (hbits y ▸ hw), fun j _ hjx =>
                Bool.eq_false_of_not_eq_true fun hw' => hbefore j hjx ((hwanted _ _).mp (hbits y ▸ hw'))⟩)
              fun i hi hiy => hblank (hrows i hi hiy)
          have h := hraster (hnext.trans ((Blocks.nextPixel_of_row_done (hdone hrow) hfinishing).trans
            (Blocks.drawRows_of_row hseek)))
          rw [show (s.blocks.work c).rowBits y = _ from hbits y,
            show (s.blocks.work c).firstTransfer (rowBits y) y x = _ from htransfer (rowBits y) y x] at h
          exact h
        · have hseek : k.seekRow (k.area.rows - (d.row + 1)) (d.row + 1) = none :=
            Work.seekRow_of_blank fun i hi hin => hblank (hrows i hi (by omega))
          have hends := (Blocks.drawRows_of_none hseek).trans ((Blocks.endArea_of_text hkind').trans
            (Blocks.endStamp_of_more (b := s.blocks) hmore))
          rw [hunpin, Blocks.lookupCode_eq hface hlooked] at hends
          exact hexec.trans (congrArg _ (State.runBlocks_glyph_raster
            (hnext.trans ((Blocks.nextPixel_of_row_done (hdone hrow) hfinishing).trans hends))))
        · have hseek : k.seekRow (k.area.rows - (d.row + 1)) (d.row + 1) = none :=
            Work.seekRow_of_blank fun i hi hin => hblank (hrows i hi (by omega))
          have hends := (Blocks.drawRows_of_none hseek).trans ((Blocks.endArea_of_text hkind').trans
            (Blocks.endStamp_of_last (b := s.blocks) hlast))
          rw [hunpin] at hends
          exact ⟨_, hcleared, hexec.trans (congrArg _ (State.runBlocks_endOperation
            (hnext.trans ((Blocks.nextPixel_of_row_done (hdone hrow) hfinishing).trans hends)) hclaims hawaits))⟩

end Sys2Proof.Machine
end


section
/-! PROOFS. Busy blocks (sections 1.2, 2.2 and 6.2): entries that join a queue, and the entry or claim that is taken when
one ends. -/

namespace Sys2Proof.Machine

/-! ### Entries that reach a busy block (R5, R32, R107) -/

section

variable {s : State} {r : RingId} {e : WorkEntry} {kind : Kind} {command : Instr}

theorem State.takeBlocksEntry_of_waits {arrive : Blocks → WorkEntry → Blocks × List Task} {b : Blocks}
    {op : Nat → Bool} (hpart : s.part ≠ .resetting) (hwaits : s.waitsAt r e) (hkind : e.kind = some kind)
    (hop : op e.operation = true) (h : arrive (s.clearHandover r).blocks e = (b, [])) (hsilent : b.outbox = []) :
    s.takeBlocksEntry r kind op arrive =
      ((((s.clearHandover r).withGlyph b.glyph).withLane b.lane).withRaster b.raster).withSurfaces b.surfaces := by
  rw [State.takeBlocksEntry, State.quiesce_eq hpart, State.takeEntry_of_waits hwaits hkind hop,
    State.runBlocks_nil h, State.putBlocks_of_silent _ hsilent]

/-- The row that takes an entry of the Glyph Table. -/
theorem exec_glyph_taking (hkind : e.kind = some kind) (htaking : takingCommand r e = some command)
    (hmem : kind ∈ [Kind.faceLoad, .faceDrop, .glyphPreload, .glyphDefine, .glyphRelease]) :
    exec command s = .next (s.takeBlocksEntry r kind (fun _ => true) fun b e => b.arriveGlyph r e) := by
  simp only [List.mem_cons, List.not_mem_nil, or_false] at hmem
  rcases hmem with rfl | rfl | rfl | rfl | rfl <;>
    · simp only [takingCommand, hkind, Option.some.injEq] at htaking
      subst htaking
      rfl

/-- The row that takes an entry of the Lane Unit. -/
theorem exec_lane_taking (hkind : e.kind = some kind) (htaking : takingCommand r e = some command)
    (hmem : kind ∈ [Kind.laneSet, .laneText, .laneView, .laneMotion]) :
    ∃ op, exec command s = .next (s.takeLaneEntry r kind op) ∧ op e.operation = true := by
  simp only [List.mem_cons, List.not_mem_nil, or_false] at hmem
  rcases hmem with rfl | rfl | rfl | rfl
  · simp only [takingCommand, hkind, Option.some.injEq] at htaking
    subst htaking
    exact ⟨_, exec_laneSet r s, rfl⟩
  · simp only [takingCommand, hkind] at htaking
    generalize e.operation = n at htaking ⊢
    match n, htaking with
    | 0, rfl => exact ⟨_, exec_laneTextWrite r s, rfl⟩
    | 1, rfl => exact ⟨_, exec_laneTextInsert r s, rfl⟩
    | 2, rfl => exact ⟨_, exec_laneTextDelete r s, rfl⟩
    | 3, rfl => exact ⟨_, exec_laneTextClear r s, rfl⟩
    | 4, rfl => exact ⟨_, exec_laneTextCursor r s, rfl⟩
    | n + 5, rfl => exact ⟨_, exec_laneTextWrite r s, by simp⟩
  · simp only [takingCommand, hkind] at htaking
    generalize e.operation = n at htaking ⊢
    match n, htaking with
    | 0, rfl => exact ⟨_, exec_laneViewShow r s, rfl⟩
    | 1, rfl => exact ⟨_, exec_laneViewHide r s, rfl⟩
    | 2, rfl => exact ⟨_, exec_laneViewRefresh r s, rfl⟩
    | 3, rfl => exact ⟨_, exec_laneViewRelease r s, rfl⟩
    | n + 4, rfl => exact ⟨_, exec_laneViewShow r s, by simp⟩
  · simp only [takingCommand, hkind] at htaking
    generalize e.operation = n at htaking ⊢
    match n, htaking with
    | 0, rfl => exact ⟨_, exec_laneMotionStart r s, rfl⟩
    | 1, rfl => exact ⟨_, exec_laneMotionPause r s, rfl⟩
    | 2, rfl => exact ⟨_, exec_laneMotionResume r s, rfl⟩
    | 3, rfl => exact ⟨_, exec_laneMotionStop r s, rfl⟩
    | 4, rfl => exact ⟨_, exec_laneMotionSetOffset r s, rfl⟩
    | n + 5, rfl => exact ⟨_, exec_laneMotionStart r s, by simp⟩

/-- The row that takes an entry of the Raster Engine. -/
theorem exec_raster_taking (hkind : e.kind = some kind) (htaking : takingCommand r e = some command)
    (hmem : kind ∈ [Kind.fill, .copy, .expand, .text]) : exec command s = .next (s.takeRasterEntry r kind) := by
  simp only [List.mem_cons, List.not_mem_nil, or_false] at hmem
  rcases hmem with rfl | rfl | rfl | rfl <;>
    · simp only [takingCommand, hkind, Option.some.injEq] at htaking
      subst htaking
      rfl

theorem exec_glyph_queues (hpart : s.part ≠ .resetting) (hwaits : s.waitsAt r e) (hkind : e.kind = some kind)
    (htaking : takingCommand r e = some command)
    (hmem : kind ∈ [Kind.faceLoad, .faceDrop, .glyphPreload, .glyphDefine, .glyphRelease])
    (hbusy : s.glyph.service ≠ none) : exec command s =
      .next ((s.clearHandover r).withGlyph { s.glyph with entries := s.glyph.entries ++ [⟨r, e⟩] }) := by
  have harrives : (s.clearHandover r).blocks.arriveGlyph r e =
      ({ s.blocks with glyph := { s.glyph with entries := s.glyph.entries ++ [⟨r, e⟩] } }, []) :=
    if_neg (mt Option.isNone_iff_eq_none.mp hbusy)
  rw [exec_glyph_taking hkind htaking hmem, State.takeBlocksEntry_of_waits hpart hwaits hkind rfl harrives rfl]
  rfl

theorem exec_lane_queues (hpart : s.part ≠ .resetting) (hwaits : s.waitsAt r e) (hkind : e.kind = some kind)
    (htaking : takingCommand r e = some command) (hmem : kind ∈ [Kind.laneSet, .laneText, .laneView, .laneMotion])
    (hbusy : s.lane.service ≠ none) : exec command s =
      .next ((s.clearHandover r).withLane { s.lane with entries := s.lane.entries ++ [⟨r, e⟩] }) := by
  obtain ⟨op, hexec, hop⟩ := exec_lane_taking (s := s) hkind htaking hmem
  have harrives : (s.clearHandover r).blocks.arriveLane r e =
      ({ s.blocks with lane := { s.lane with entries := s.lane.entries ++ [⟨r, e⟩] } }, []) :=
    if_neg (mt Option.isNone_iff_eq_none.mp hbusy)
  rw [hexec, State.takeLaneEntry, State.takeBlocksEntry_of_waits hpart hwaits hkind hop harrives rfl]
  rfl

theorem exec_raster_queues (hpart : s.part = .running) (hwaits : s.waitsAt r e) (hkind : e.kind = some kind)
    (htaking : takingCommand r e = some command) (hmem : kind ∈ [Kind.fill, .copy, .expand, .text])
    (hbusy : s.raster.service ≠ none) : exec command s = .next ((s.clearHandover r).withRaster { s.raster with
      claims := s.raster.claims ++ [⟨r, (s.ring r).cls, e⟩] }) := by
  obtain ⟨c, hservice⟩ := Option.ne_none_iff_exists'.mp hbusy
  have htakes : (s.blocks.lodgeClaim ⟨r, (s.ring r).cls, e⟩).1.doTask .rasterTake =
      ((s.blocks.lodgeClaim ⟨r, (s.ring r).cls, e⟩).1, []) := by
    show Blocks.takeClaim _ = _
    unfold Blocks.takeClaim
    split
    next hidle _ => exact nomatch hservice.symm.trans hidle
    next => rfl
  rw [exec_raster_taking hkind htaking hmem, State.takeRasterEntry_of_waits hpart hwaits hkind,
    State.runBlocks_of_settles (s := s.clearHandover r) (by rfl) (.cons (by exact htakes) (.nil _)) (by decide),
    State.putBlocks_of_silent _ rfl]
  rfl

end

/-! ### The claim that the arbiter takes (R108) -/

/-- The claim at a place is the oldest URGENT one, or no claim is URGENT and it is the oldest. -/
def FirstClaim (before after : List Claim) (c : Claim) : Prop :=
  (c.cls = .urgent ∧ ∀ x ∈ before, x.cls = .normal) ∨ (c.cls = .normal ∧ before = [] ∧ ∀ x ∈ after, x.cls = .normal)

section

variable {before after : List Claim} {c : Claim}

theorem chosenClaim_of_first (h : FirstClaim before after c) :
    Blocks.chosenClaim (before ++ c :: after) = some c := by
  unfold Blocks.chosenClaim
  rcases h with ⟨hurgent, hbefore⟩ | ⟨hnormal, rfl, hafter⟩
  · have hfind : (before ++ c :: after).find? (fun x : Claim => x.cls == RingClass.urgent) = some c := by
      rw [List.find?_append, List.find?_eq_none.mpr fun x hx => by simp [hbefore x hx]]
      simp [hurgent]
    rw [hfind]
    rfl
  · have hfind : ([] ++ c :: after).find? (fun x : Claim => x.cls == RingClass.urgent) = none :=
      List.find?_eq_none.mpr fun x hx => by
        rcases List.mem_cons.mp hx with rfl | hx
        · simp [hnormal]
        · simp [hafter x hx]
    rw [hfind]
    rfl

/-- The claim taken leaves the others in their order. -/
theorem erase_of_first (h : FirstClaim before after c) : (before ++ c :: after).erase c = before ++ after := by
  rcases h with ⟨hurgent, hbefore⟩ | ⟨-, rfl, -⟩
  · have hnew : c ∉ before := fun hmem => nomatch hurgent.symm.trans (hbefore c hmem)
    rw [List.erase_append_right _ hnew, List.erase_cons_head]
  · exact List.erase_cons_head c after

end

/-! ### The next entry of the Glyph Table and of the Lane Unit (R5, R32) -/

theorem Blocks.takeGlyph_of_head {b : Blocks} {x : RingEntry} {rest : List RingEntry} (hservice : b.glyph.service = none)
    (hentries : b.glyph.entries = x :: rest) :
    b.takeGlyph = ({ b with glyph := { b.glyph with entries := rest } } : Blocks).serveGlyph x.ring x.entry := by
  simp only [Blocks.takeGlyph, hservice, hentries]

theorem Blocks.takeLane_of_head {b : Blocks} {x : RingEntry} {rest : List RingEntry} (hservice : b.lane.service = none)
    (hentries : b.lane.entries = x :: rest) :
    b.takeLane = ({ b with lane := { b.lane with entries := rest } } : Blocks).serveLane x.ring x.entry := by
  simp only [Blocks.takeLane, hservice, hentries]

/-- A define that ends with a bus error while entries wait: the head of the queue, a define, is served. -/
theorem exec_defineReadEnd_next {s : State} {v : GlyphService} {span : ReadSpan} {q : RingId} {e : WorkEntry}
    {rest : List RingEntry} {f : FaceId} (hpart : s.part ≠ .resetting) (hservice : s.glyph.service = some v)
    (hread : s.glyph.defineRead = some span) (hentries : s.glyph.entries = ⟨q, e⟩ :: rest)
    (hawaits : (s.ring v.ring).awaitsAnswer = true) (hkind : e.kind = some .glyphDefine) (hf : e.u8 0x04 = f.1)
    (hface : s.glyph.faces[f].state = .loaded) (haddr : (e.word 0x08).toNat % 2 = 0) :
    exec (.defineReadEnd .busError) s = .next ((s.withGlyph { s.glyph with
      staging := none, service := some ⟨q, e, (e.half 0x08).toNat⟩, entries := rest,
      defineRead := some ⟨(e.word 0x08).toNat, 2 * s.glyph.faces[f].height⟩ }).withTransit { s.transit with
        answers := update s.transit.answers v.ring (some (.failed .busError)),
        glyphAnswers := s.transit.glyphAnswers ++ [v.ring] }) := by
  let left : Blocks := { s.blocks with glyph := { s.glyph with defineRead := none, service := none, staging := none } }
  have hends : ({ s.blocks with glyph := { s.glyph with defineRead := none } } : Blocks).doTask
      (.glyphEnd (.failed .busError)) = (left.answerEnded v.ring (.failed .busError), [.glyphTake]) := by
    show Blocks.glyphEnd _ _ = _
    simp only [Blocks.glyphEnd, hservice]
    rfl
  have hpasses : s.glyph.defineFails (e.u8 0x04) (e.word 0x08) = none := by
    rw [GlyphTable.defineFails_of_face hf, if_neg (GlyphTable.loaded_ne_empty hface), if_neg (by omega)]
  let next : Blocks := { s.blocks with glyph := { s.glyph with
    staging := none, service := some ⟨q, e, (e.half 0x08).toNat⟩, entries := rest,
    defineRead := some ⟨(e.word 0x08).toNat, s.glyph.faces[f].height * 2⟩ } }
  have htakes : (left.answerEnded v.ring (.failed .busError)).doTask .glyphTake =
      (next.answerEnded v.ring (.failed .busError), []) :=
    (Blocks.takeGlyph_of_head rfl hentries).trans ((Blocks.serveGlyph_define hkind).trans
      (Blocks.serveDefine_of_passes (by exact hf) (by exact hpasses)))
  rw [exec_defineReadEnd_of_define hpart hread, State.runBlocks_of_settles
      (Blocks.defineReadEnds_busError (b := s.blocks) hservice hread) (.cons hends (.cons htakes (.nil _))) (by decide),
    Nat.mul_comm, State.putBlocks_answerEnded (b := next) rfl hawaits]
  rfl

/-- An edit that ends with a bus error while entries wait: the head of the queue, a WRITE, is served. -/
theorem exec_cellListReadEnd_next {s : State} {v : LaneService} {span : ReadSpan} {q : RingId} {e : WorkEntry}
    {rest : List RingEntry} {l : LaneId} (hpart : s.part ≠ .resetting) (hservice : s.lane.service = some v)
    (hread : v.read = some span) (hcurrent : v.current = none) (hstaging : s.lane.staging = [])
    (hentries : s.lane.entries = ⟨q, e⟩ :: rest) (hawaits : (s.ring v.ring).awaitsAnswer = true)
    (hkind : e.kind = some .laneText) (hop : e.operation = 0) (hl : e.u8 0x04 = l.1)
    (hset : (s.laneAt l).state = .set) (hface : s.glyph.faces[(s.laneAt l).settings.face].state = .loaded)
    (hcursor : (s.laneAt l).cursor < 128) (hn : 1 ≤ e.u16 0x06 ∧ e.u16 0x06 ≤ 128) (haddr : (e.word 0x08).toNat % 4 = 0) :
    exec (.cellListReadEnd false .busError) s = .next ((s.withLane { s.lane with
      staging := [], entries := rest,
      service := some { ring := q, lane := l, edit := .write,
                        dropped := e.u16 0x06 - min (e.u16 0x06) (128 - (s.laneAt l).cursor), todo := [],
                        undelivered := min (e.u16 0x06) (128 - (s.laneAt l).cursor), current := none,
                        read := some ⟨(e.word 0x08).toNat, min (e.u16 0x06) (128 - (s.laneAt l).cursor) * 4⟩ } }).withTransit
        { s.transit with answers := update s.transit.answers v.ring (some (.failed .busError)) }) := by
  let left : Blocks := { s.blocks with lane := { s.lane with staging := [], service := none } }
  have hends : s.blocks.cellListRead .busError = (left.answer v.ring (.failed .busError), [.laneTake]) := by
    rw [Blocks.cellListRead_of_busError (b := s.blocks) hservice hread, if_pos hcurrent,
      show s.blocks.lane.staging = [] from hstaging]
    rfl
  let begun : Blocks := { s.blocks with lane := { s.lane with
    staging := [], entries := rest,
    service := some { ring := q, lane := l, edit := .write,
                      dropped := e.u16 0x06 - min (e.u16 0x06) (128 - (s.laneAt l).cursor), todo := [],
                      undelivered := min (e.u16 0x06) (128 - (s.laneAt l).cursor), current := none,
                      read := some ⟨(e.word 0x08).toNat, min (e.u16 0x06) (128 - (s.laneAt l).cursor) * 4⟩ } } }
  let waiting : Blocks := { left.answer v.ring (.failed .busError) with lane := { s.lane with
    staging := [], service := none, entries := rest } }
  have htakes : (left.answer v.ring (.failed .busError)).doTask .laneTake =
      (begun.answer v.ring (.failed .busError), []) := by
    have hroom : ¬Blocks.storedCells .write (s.laneAt l) (e.u16 0x06) = 0 := by
      rw [Blocks.storedCells_eq, if_pos rfl]
      omega
    have htext (b : Blocks) : b.serveLane q e = b.startEdit .write q e := by
      rw [Blocks.serveLane_laneText hkind]
      simp only [Blocks.laneText, hop]
    refine (Blocks.takeLane_of_head (b := left.answer v.ring (.failed .busError)) rfl hentries).trans ((htext waiting).trans
      ((Blocks.startEdit_of_set (b := waiting) hl (by exact hset) .write).trans ?_))
    exact (if_neg (by omega)).trans ((if_neg (GlyphTable.loaded_ne_empty (by exact hface))).trans (if_neg hroom))
  rw [exec_cellListReadEnd hpart hservice hread, State.runBlocks_of_settles hends (.cons htakes (.nil _)) (by decide),
    State.putBlocks_answered (b := begun) rfl hawaits]
  rfl

/-! ### The next claim (R108, R115) -/

namespace Blocks

/-- The surfaces are those of `b`, bar their raster-use marks. -/
def SameBarMarks (b b' : Blocks) : Prop := ∀ z, ∃ m, b'.surface z = { b.surface z with mark := m }

variable {b b' : Blocks} {c : Claim} {before after : List Claim}

theorem SameBarMarks.of_marked {x y : Option SurfaceId} {m : Bool}
    (h : b'.surfaces = markedSurfaces b.surfaces x y m) : b.SameBarMarks b' := fun z => by
  obtain ⟨mark, hmark⟩ := surface_marked x y m b z
  refine ⟨mark, Eq.trans ?_ hmark⟩
  unfold surface
  rw [h]

theorem SameBarMarks.trans {b'' : Blocks} (h : b.SameBarMarks b') (h' : b'.SameBarMarks b'') : b.SameBarMarks b'' :=
  fun z => by
    obtain ⟨m, hm⟩ := h z
    obtain ⟨m', hm'⟩ := h' z
    exact ⟨m', by rw [hm', hm]⟩

/-- Validation reads no mark and nothing of the engine. -/
theorem rasterFails_of_same (h : b.SameBarMarks b') (hglyph : b'.glyph = b.glyph) (a : RasterArgs) :
    b'.rasterFails a = b.rasterFails a := by
  obtain ⟨m, hdst⟩ := h a.dst
  obtain ⟨m', hsrc⟩ := h a.src
  unfold rasterFails
  rw [hdst, hsrc, hglyph]
  rfl

/-- The rectangle of an operation other than TEXT rests on its entry and on the surfaces, marks aside. -/
theorem work_of_same (h : b.SameBarMarks b') (hkind : c.entry.rasterArgs.kind ≠ .text) (r x : Nat) (bits : Half) :
    (b'.work c).area = (b.work c).area ∧ (b'.work c).firstTransfer bits r x = (b.work c).firstTransfer bits r x := by
  obtain ⟨m, hdst⟩ := h c.entry.rasterArgs.dst
  obtain ⟨m', hsrc⟩ := h c.entry.rasterArgs.src
  have hwork : ∃ g bm, b'.work c = { b.work c with
      dst := { (b.work c).dst with mark := m }, src := { (b.work c).src with mark := m' }, glyphColumns := g,
      bitmap := bm } := by
    refine ⟨(b'.work c).glyphColumns, (b'.work c).bitmap, ?_⟩
    simp only [work, hdst, hsrc, if_neg hkind]
  obtain ⟨g, bm, hwork⟩ := hwork
  rw [hwork]
  refine ⟨rfl, ?_⟩
  by_cases hfill : c.entry.rasterArgs.kind = .fill
  · rw [Work.firstTransfer_of_fill hfill, Work.firstTransfer_of_fill hfill]
    rfl
  · rw [Work.firstTransfer_of_source hkind hfill, Work.firstTransfer_of_source hkind hfill]
    rfl

/-- A free engine takes the first claim; where it fails validation, the next one's turn comes. -/
theorem takeClaim_of_fails {status : Status} (hservice : b.raster.service = none)
    (hclaims : b.raster.claims = before ++ c :: after) (hfirst : FirstClaim before after c)
    (hfails : b.rasterFails c.entry.rasterArgs = some status) : b.takeClaim =
      (({ b with raster := { b.raster with claims := before ++ after } } : Blocks).answer c.ring (.failed status),
        [.rasterTake]) := by
  simp only [takeClaim, hservice, hclaims, chosenClaim_of_first hfirst, erase_of_first hfirst, hfails]

theorem takeClaim_of_passes (hservice : b.raster.service = none)
    (hclaims : b.raster.claims = before ++ c :: after) (hfirst : FirstClaim before after c)
    (hvalid : b.rasterFails c.entry.rasterArgs = none) : b.takeClaim =
      ({ b with raster := { b.raster with claims := before ++ after } } : Blocks).beginOperation c := by
  simp only [takeClaim, hservice, hclaims, chosenClaim_of_first hfirst, erase_of_first hfirst, hvalid]

/-- The last pixel of an operation ends it. -/
theorem transferEnded_of_last_pixel {d : Drawing} {stored byte : Byte} (hkind : c.entry.rasterArgs.kind ≠ .text)
    (hwrite : d.transfer.kind = .destWrite stored) (hfinishing : b.raster.finishing = false)
    (hcolumn : d.column + 1 = (b.work c).area.columns) (hrow : d.row + 1 = (b.work c).area.rows) :
    b.transferEnded c d byte = b.endOperation c .done := by
  have hseek : (b.work c).seekColumn d.rowBits (d.column + 1) = none := by
    rw [Work.seekColumn_eq (Work.wanted_of_not_text hkind _) _, if_neg (by omega)]
  rw [transferEnded_of_destWrite hwrite, nextPixel_of_row_done hseek hfinishing, drawRows_of_not_text hkind,
    if_neg (by omega)]

end Blocks

theorem WorkEntry.rasterArgs_not_text {e : WorkEntry}
    (h : e.kind = some .fill ∨ e.kind = some .copy ∨ e.kind = some .expand) : e.rasterArgs.kind ≠ .text := by
  rcases h with h | h | h <;>
    simp [WorkEntry.rasterArgs, h, WorkEntry.fillArgs, WorkEntry.copyArgs, WorkEntry.expandArgs]

/-- The marks after one operation has ended and another has begun. -/
theorem markedSurfaces_next_get (v : Vector Surface 16) (x y x' y' : Option SurfaceId) (n : SurfaceId) :
    (markedSurfaces (markedSurfaces v x y false) x' y' true)[n] = { v[n] with
      mark := decide (x' = some n ∨ y' = some n) || (v[n].mark && !decide (x = some n ∨ y = some n)) } := by
  rw [Fin.getElem_fin, markedSurfaces_get, ← Fin.getElem_fin, markedSurfaces_false_get]
  by_cases h : x' = some n ∨ y' = some n <;> simp [h]

section

variable {s : State} {c next : Claim} {before after : List Claim}

/-- The blocks once the operation of `c` has ended, the claims `claims` being left. -/
def Blocks.afterOperation (b : Blocks) (c : Claim) (claims : List Claim) : Blocks :=
  { b with
    surfaces := markedSurfaces b.surfaces c.entry.rasterArgs.dst c.entry.rasterArgs.src false
    raster := { RasterEngine.idle with claims := claims, lostReads := b.raster.lostReads } }

/-- The state as the operation of `c` ends, bar what becomes of marks and engine. -/
def State.endedOperation (s : State) (c : Claim) (marks : Vector Surface 16) (engine : RasterEngine) : State :=
  ((s.withSurfaces marks).withRaster engine).withTransit
    { s.transit with answers := update s.transit.answers c.ring (some .done) }

/-- The operation ends and the next claim begins its own (R108, R115). -/
theorem State.runBlocks_next_begins {f : Blocks → Blocks × List Task} {engine : RasterEngine} {marks : Vector Surface 16}
    (h : f s.blocks = s.blocks.endOperation c .done) (hclaims : s.raster.claims = before ++ next :: after)
    (hfirst : FirstClaim before after next) (hawaits : (s.ring c.ring).awaitsAnswer = true)
    (hvalid : s.blocks.rasterFails next.entry.rasterArgs = none)
    (hbegins : ((s.blocks.afterOperation c (before ++ after)).answer c.ring .done).beginOperation next =
      (({ s.blocks with surfaces := marks, raster := engine } : Blocks).answer c.ring .done, [])) :
    s.runBlocks f = s.endedOperation c marks engine := by
  let ended : Blocks := (s.blocks.afterOperation c (before ++ next :: after)).answer c.ring .done
  have hends : f s.blocks = (ended, [.rasterTake]) := by
    rw [h, Blocks.endOperation_eq, show s.blocks.raster.claims = before ++ next :: after from hclaims]
    rfl
  have hsame : s.blocks.SameBarMarks ended := .of_marked rfl
  have htakes : ended.doTask .rasterTake =
      (({ s.blocks with surfaces := marks, raster := engine } : Blocks).answer c.ring .done, []) :=
    (Blocks.takeClaim_of_passes (b := ended) rfl rfl hfirst ((Blocks.rasterFails_of_same hsame rfl _).trans hvalid)).trans
      hbegins
  rw [State.runBlocks_of_settles hends (.cons htakes (.nil _)) (by decide), State.putBlocks_answered (by rfl) hawaits]
  rfl

/-- Two rings that await their answers are given them. -/
theorem State.putBlocks_answered_twice {b : Blocks} {r q : RingId} (hsilent : b.outbox = [])
    (hr : (s.ring r).awaitsAnswer = true) (hq : (s.ring q).awaitsAnswer = true) (x y : Answer) :
    s.putBlocks ((b.answer r x).answer q y) =
      ((((s.withGlyph b.glyph).withLane b.lane).withRaster b.raster).withSurfaces b.surfaces).withTransit
        { s.transit with answers := update (update s.transit.answers r (some x)) q (some y) } := by
  unfold State.putBlocks
  simp only [Blocks.answer, hsilent, List.nil_append, List.cons_append]
  generalize hbase : (((s.withGlyph b.glyph).withLane b.lane).withRaster b.raster).withSurfaces b.surfaces = base
  have hring (p : RingId) : base.ring p = s.ring p := by rw [← hbase]; rfl
  have htransit : base.transit = s.transit := by rw [← hbase]; rfl
  show State.giveAnswer (State.giveAnswer base r x) q y = _
  refine (congrArg (State.giveAnswer · q y) (State.giveAnswer_of_awaits
    ((congrArg Ring.awaitsAnswer (hring r)).trans hr) x)).trans ((State.giveAnswer_of_awaits
      (by exact (congrArg Ring.awaitsAnswer (hring q)).trans hq) y).trans ?_)
  rw [htransit]
  rfl

/-- The operation ends and the next claim, the last, fails validation (R108, R109). -/
theorem State.runBlocks_next_fails {f : Blocks → Blocks × List Task} {status : Status}
    (h : f s.blocks = s.blocks.endOperation c .done) (hclaims : s.raster.claims = before ++ next :: after)
    (hfirst : FirstClaim before after next) (hawaits : (s.ring c.ring).awaitsAnswer = true)
    (hlast : before ++ after = []) (hfails : s.blocks.rasterFails next.entry.rasterArgs = some status)
    (hnext : (s.ring next.ring).awaitsAnswer = true) : s.runBlocks f =
      (s.endedOperation c (markedSurfaces s.surfaces c.entry.rasterArgs.dst c.entry.rasterArgs.src false)
        { RasterEngine.idle with claims := before ++ after, lostReads := s.raster.lostReads }).withTransit
          { s.transit with
            answers := update (update s.transit.answers c.ring (some .done)) next.ring (some (.failed status)) } := by
  let ended : Blocks := (s.blocks.afterOperation c (before ++ next :: after)).answer c.ring .done
  let left : Blocks := ((s.blocks.afterOperation c (before ++ after)).answer c.ring .done).answer next.ring (.failed status)
  have hends : f s.blocks = (ended, [.rasterTake]) := by
    rw [h, Blocks.endOperation_eq, show s.blocks.raster.claims = before ++ next :: after from hclaims]
    rfl
  have hsame : s.blocks.SameBarMarks ended := .of_marked rfl
  have htakes : ended.doTask .rasterTake = (left, [.rasterTake]) :=
    Blocks.takeClaim_of_fails (b := ended) rfl rfl hfirst ((Blocks.rasterFails_of_same hsame rfl _).trans hfails)
  have hstays : Blocks.Settles 1 [.rasterTake] left left := Blocks.Settles.rasterTake (b := left) hlast
  have hputs := State.putBlocks_answered_twice (s := s) (b := s.blocks.afterOperation c (before ++ after)) (by rfl)
    hawaits hnext .done (.failed status)
  rw [State.runBlocks_of_settles hends (.cons htakes hstays) (by decide), hputs]
  rw [State.endedOperation, State.withTransit_withTransit]
  rfl

end

/-- Settles O60: an entry queues at a busy block, and the end of what the block has in hand takes the next one. -/
theorem busyBlocksQueueTheirEntries : Obligations.BusyBlocksQueueTheirEntries := by
  refine ⟨fun s r e kind command hpart hwaits hkind htaking => ⟨exec_glyph_queues hpart hwaits hkind htaking,
      exec_lane_queues hpart hwaits hkind htaking, fun hmem hrun => exec_raster_queues hrun hwaits hkind htaking hmem⟩,
    fun before after c hfirst => chosenClaim_of_first hfirst, ?_,
    fun s v span q e rest f hpart hservice hread hentries hawaits hkind hf hface haddr =>
      exec_defineReadEnd_next hpart hservice hread hentries hawaits hkind hf hface haddr,
    fun s v span q e rest l hpart hservice hread hcurrent hstaging hentries hawaits hkind hop hl hset hface hcursor hn
      haddr => exec_cellListReadEnd_next hpart hservice hread hcurrent hstaging hentries hawaits hkind hop hl
        hset hface hcursor hn haddr⟩
  intro s c next d before after read stored hpart hservice hdrawing hstamp hkind hfinishing hawaits hwrite hcolumn hrow
    hspace hclaims hfirst a b k command idle ended begun
  obtain ⟨byte, hbyte⟩ : ∃ byte, d.transfer.Returns s.frameMemory read byte := by
    rcases hspace with ⟨hloc, haddr⟩ | ⟨hhost, bytes, hread⟩
    · exact ⟨_, .inl ⟨hloc, haddr, rfl⟩⟩
    · exact ⟨_, .inr ⟨hhost, bytes, hread, rfl⟩⟩
  let s' := s.withFrameMemory (d.transfer.stored s.frameMemory)
  have hexec : command = .next (s'.runBlocks fun b => b.transferEnded c d byte) :=
    exec_rasterTransferEnd_of_byte hpart hservice hdrawing hbyte
  have hends : s'.blocks.transferEnded c d byte = s'.blocks.endOperation c .done :=
    Blocks.transferEnded_of_last_pixel (WorkEntry.rasterArgs_not_text hkind) hwrite hfinishing hcolumn hrow
  let left := (s'.blocks.afterOperation c (before ++ after)).answer c.ring .done
  have hbegins {engine : RasterEngine} (hvalid : s.blocks.rasterFails b = none)
      (h : left.beginOperation next = (({ s'.blocks with
        surfaces := markedSurfaces (markedSurfaces s.surfaces a.dst a.src false) b.dst b.src true
        raster := engine } : Blocks).answer c.ring .done, [])) : begun engine :=
    ⟨_, hexec.trans (congrArg _ (State.runBlocks_next_begins hends hclaims hfirst hawaits hvalid h)),
      markedSurfaces_next_get _ _ _ _ _⟩
  refine ⟨fun f hvalid htext hface => ?_, fun hvalid hdraws hcolumns hrows => ?_, fun status hfails hlast hnext => ?_⟩
  · exact hbegins hvalid (Blocks.beginOperation_of_text (WorkEntry.rasterArgs_of_text htext).1 hface)
  · have hnot := WorkEntry.rasterArgs_not_text hdraws
    have hsame : s.blocks.SameBarMarks (left.begun next) :=
      (Blocks.SameBarMarks.of_marked (b' := left) rfl).trans (.of_marked rfl)
    obtain ⟨harea, htransfer⟩ := Blocks.work_of_same hsame hnot 0 0 0
    refine hbegins hvalid ?_
    rw [Blocks.beginOperation_of_not_text hnot, Blocks.drawRows_of_not_text hnot, harea,
      if_pos (by exact ⟨hrows, hcolumns⟩), Work.rowBits_of_no_bitmap (by rfl), htransfer]
    rfl
  · exact ⟨_, hexec.trans (congrArg _ (State.runBlocks_next_fails hends hclaims hfirst hawaits hlast hfails hnext)),
      markedSurfaces_false_get _ _ _⟩

end Sys2Proof.Machine
end


section
/-! PROOFS. The end of a fill (section 1.5): the slot and its audience, and what a REFRESH makes of its answers. -/

namespace Sys2Proof.Machine

namespace GlyphTable

variable {g : GlyphTable} {f : GlyphFetch} {n : SlotId} {bytes : List Byte}

/-! ### A fill without error (R19) -/

/-- The table once the slot of the fetch is RESIDENT with the rows read and `pins` pins. -/
def residentAfter (g : GlyphTable) (f : GlyphFetch) (bytes : List Byte) (pins : Nat) : GlyphTable :=
  { g with
    fetch := none, reclaim := if pins = 0 then g.reclaim ++ [f.slot] else g.reclaim,
    slots := update g.slots f.slot { g.slots[f.slot] with
      state := .resident, bitmap := bitmapOf (halvesOf (f.read.len / 2) bytes), pins := pins, waiters := [],
      defineWait := false } }

theorem filter_ne_of_not_mem {l : List SlotId} (h : n ∉ l) : l.filter (· != n) = l :=
  List.filter_eq_self.mpr fun _ hm => bne_iff_ne.mpr fun hmn => h (hmn ▸ hm)

/-- The pinning requesters of an audience pin its slot, which is not on the reclaim list. -/
theorem answerSlot_eq (audience : List Requester) {slots : Vector Slot 384} {k : Slot} (hstate : k.state = .resident)
    (hunlisted : n ∉ g.reclaim) : answerSlot n audience { g with slots := update slots n k } =
      { g with slots := update slots n { k with pins := k.pins + audience.countP pinning } } := by
  induction audience generalizing k with
  | nil => rfl
  | cons who rest ih =>
    have hfilter := filter_ne_of_not_mem hunlisted
    rw [answerSlot, List.countP_cons]
    by_cases hpins : pinning who = true
    · rw [if_pos hpins, if_pos hpins, pin_eq]
      simp only [update_get, if_true, update_update, hfilter, ite_self]
      rw [ih (by exact hstate)]
      simp only [Nat.add_assoc, Nat.add_comm 1]
    · rw [if_neg hpins, if_neg hpins, ih hstate]
      rfl

section

variable (hpins : g.slots[f.slot].pins = 0) (hunlisted : f.slot ∉ g.reclaim)
include hpins hunlisted

/-- The slot of a fill, answered and listed. -/
theorem filled_slot (audience : List Requester) :
    (let g2 := answerSlot f.slot audience (g.setSlot f.slot { g.slots[f.slot] with
        state := .resident, bitmap := bitmapOf (halvesOf (f.read.len / 2) bytes), waiters := [], defineWait := false })
      if g2.slots[f.slot].pins = 0 then g2.listLast f.slot else g2) =
    { g.residentAfter f bytes (audience.countP pinning) with fetch := g.fetch } := by
  have hfilter := filter_ne_of_not_mem hunlisted
  rw [setSlot, answerSlot_eq audience rfl hunlisted]
  simp only [Fin.getElem_fin] at hpins
  simp only [Fin.getElem_fin, update_get, if_true, hpins, Nat.zero_add]
  by_cases hcount : audience.countP pinning = 0
  · rw [if_pos hcount, residentAfter, if_pos hcount, listLast, hcount, hfilter]
    rfl
  · rw [if_neg hcount, residentAfter, if_neg hcount]
    rfl

/-- A fill that a define waits for: the define commits into the slot. -/
theorem filled_of_define {g' : GlyphTable} {tasks : List Task} (hwait : g.slots[f.slot].defineWait = true)
    (haudience : g.fillAudience f = [])
    (h : ({ g.residentAfter f bytes 0 with fetch := g.fetch } : GlyphTable).defineInPlace f.slot = (g', tasks))
    (hqueue' : g'.queue = []) : g.filled f bytes = ({ g' with fetch := none }, tasks) := by
  have hslot := filled_slot (bytes := bytes) hpins hunlisted (g.fillAudience f)
  dsimp only at hslot
  unfold GlyphTable.filled
  dsimp only
  rw [hwait, hslot, haudience, if_pos rfl, List.countP_nil, h]
  dsimp only
  rw [startQueue_of_empty (by exact hqueue')]
  simp only [List.append_nil, List.map_nil, List.nil_append]

variable (hqueue : g.queue = [])
include hqueue

/-- A fill that no define waits for. -/
theorem filled_of_no_define (hwait : g.slots[f.slot].defineWait = false) : g.filled f bytes =
    (g.residentAfter f bytes ((g.fillAudience f).countP pinning),
      (g.fillAudience f).map fun who => .answered who (.slot f.slot)) := by
  have hslot := filled_slot (bytes := bytes) hpins hunlisted (g.fillAudience f)
  dsimp only at hslot
  unfold GlyphTable.filled
  dsimp only
  rw [hwait, hslot]
  simp only [Bool.false_eq_true, if_false]
  rw [startQueue_of_empty (by exact hqueue)]
  simp only [List.append_nil]
  rfl

/-- The define finds room in the slot that is RESIDENT now. -/
theorem filled_of_define_room (hwait : g.slots[f.slot].defineWait = true) (haudience : g.fillAudience f = [])
    (hcount : (g.residentAfter f bytes 0).userCount < 128) : g.filled f bytes = ({ g with
      fetch := none, slots := update g.slots f.slot { g.slots[f.slot] with
        state := .user, bitmap := bitmapOf (g.staging.getD []), waiters := [], defineWait := false } },
      [.glyphEnd .done]) := by
  have hfilter : (g.reclaim ++ [f.slot]).filter (· != f.slot) = g.reclaim := by
    simp [List.filter_append, filter_ne_of_not_mem hunlisted]
  have hplace := defineInPlace_of_room (g := { g.residentAfter f bytes 0 with fetch := g.fetch }) (n := f.slot)
    (by simp [residentAfter]) (by exact hcount)
  refine (filled_of_define hpins hunlisted hwait haudience hplace hqueue).trans ?_
  simp only [Fin.getElem_fin] at hpins
  simp only [setSlot, unlist, residentAfter, if_true, hfilter, update_update, update_get, Fin.getElem_fin, hpins]

theorem filled_of_define_full (hwait : g.slots[f.slot].defineWait = true) (haudience : g.fillAudience f = [])
    (hcount : 128 ≤ (g.residentAfter f bytes 0).userCount) :
    g.filled f bytes = (g.residentAfter f bytes 0, [.glyphEnd ⟨.noSlot, 0, 1⟩]) :=
  filled_of_define hpins hunlisted hwait haudience (defineInPlace_of_full (g := { g.residentAfter f bytes 0 with
    fetch := g.fetch }) (n := f.slot) (by simp [residentAfter]) (by exact hcount)) hqueue

end

/-! ### A fill with a bus error (R20) -/

/-- The table once the slot of the fetch is FREE. -/
def freedAfter (g : GlyphTable) (f : GlyphFetch) : GlyphTable :=
  { g with
    fetch := none, slots := update g.slots f.slot { g.slots[f.slot] with
      state := .free, key := none, waiters := [], defineWait := false } }

theorem fillFailed_of_no_define (hqueue : g.queue = []) (hwait : g.slots[f.slot].defineWait = false) :
    g.fillFailed f = (g.freedAfter f, (g.fillAudience f).map fun who => .answered who .busError) := by
  unfold GlyphTable.fillFailed
  dsimp only
  rw [hwait]
  dsimp only
  rw [startQueue_of_empty (by exact hqueue)]
  simp only [List.append_nil]
  rfl

/-- A define that waits allocates. -/
theorem fillFailed_of_define {key : Key} (hqueue : g.queue = []) (hwait : g.slots[f.slot].defineWait = true)
    (haudience : g.fillAudience f = []) (hkey : g.slots[f.slot].key = some key)
    (hunheld : (g.freedAfter f).slotOf key = none) : g.fillFailed f = (g.freedAfter f).defineAllocate key := by
  have hrequest : (g.freedAfter f).request ⟨.define, key⟩ = (g.freedAfter f).defineAllocate key :=
    (request_of_idle (g := g.freedAfter f) rfl hqueue _).trans (startRequest_define (g := g.freedAfter f) hunheld)
  rw [← hrequest]
  unfold GlyphTable.fillFailed
  dsimp only
  rw [hwait, hkey, haudience]
  rfl

theorem fillEnds_ok (h : g.fetch = some f) (bytes : List Byte) : g.fillEnds (.ok bytes) = g.filled f bytes := by
  simp only [GlyphTable.fillEnds, h]

theorem fillEnds_busError (h : g.fetch = some f) : g.fillEnds .busError = g.fillFailed f := by
  simp only [GlyphTable.fillEnds, h]

end GlyphTable

/-! ### The cells of a REFRESH (R50) -/

namespace Blocks

variable {staged : List StagedCell} {cells : List TextCell} {i : Nat} {old : TextCell} {n : SlotId}

theorem refreshCells_cons_of_slot {c : StagedCell} (hslot : c.cell.slot = some n) (hold : cells[c.position]? = some old) :
    refreshCells (c :: staged) cells = refreshCells staged (cells.set c.position { old with slot := some n }) := by
  simp only [refreshCells, hslot, hold]

theorem refreshCells_cons_of_none {c : StagedCell} (h : c.cell.slot = none ∨ cells[c.position]? = none) :
    refreshCells (c :: staged) cells = refreshCells staged cells := by
  rcases h with h | h <;> simp only [refreshCells, h]
  cases c.cell.slot <;> rfl

/-- A record takes its slot into its cell, or has no effect. -/
theorem refreshCells_cons (c : StagedCell) :
    (∃ n old, c.cell.slot = some n ∧ cells[c.position]? = some old ∧
      refreshCells (c :: staged) cells = refreshCells staged (cells.set c.position { old with slot := some n })) ∨
    ((c.cell.slot = none ∨ cells[c.position]? = none) ∧
      refreshCells (c :: staged) cells = refreshCells staged cells) := by
  cases hslot : c.cell.slot with
  | none => exact .inr ⟨.inl rfl, refreshCells_cons_of_none (.inl hslot)⟩
  | some n =>
    cases hold : cells[c.position]? with
    | none => exact .inr ⟨.inr rfl, refreshCells_cons_of_none (.inr hold)⟩
    | some old => exact .inl ⟨n, old, rfl, rfl, refreshCells_cons_of_slot hslot hold⟩

theorem refreshCells_length (staged : List StagedCell) (cells : List TextCell) :
    (refreshCells staged cells).length = cells.length := by
  induction staged generalizing cells with
  | nil => rfl
  | cons c rest ih =>
    rcases refreshCells_cons (staged := rest) (cells := cells) c with ⟨n, old, -, -, h⟩ | ⟨-, h⟩
    · rw [h, ih, List.length_set]
    · rw [h, ih]

/-- A cell that no record has found a slot for stays. -/
theorem refreshCells_untouched (h : ∀ x n, x ∈ staged → x.position = i → x.cell.slot ≠ some n) :
    (refreshCells staged cells)[i]? = cells[i]? := by
  induction staged generalizing cells with
  | nil => rfl
  | cons c rest ih =>
    have hrest := ih (cells := cells) fun x n hx => h x n (List.mem_cons_of_mem c hx)
    rcases refreshCells_cons (staged := rest) (cells := cells) c with ⟨n, old, hslot, -, hcons⟩ | ⟨-, hcons⟩
    · have hne : c.position ≠ i := fun hi => h c n List.mem_cons_self hi hslot
      rw [hcons, ih fun x n hx => h x n (List.mem_cons_of_mem c hx), List.getElem?_set_ne hne]
    · rw [hcons, hrest]

/-- A cell that a record has found a slot for takes it, where no other record is about that cell. -/
theorem refreshCells_found (hnodup : (staged.map StagedCell.position).Nodup) {x : StagedCell} (hx : x ∈ staged)
    (hslot : x.cell.slot = some n) (hold : cells[x.position]? = some old) :
    (refreshCells staged cells)[x.position]? = some { old with slot := some n } := by
  induction staged generalizing cells with
  | nil => nomatch hx
  | cons c rest ih =>
    obtain ⟨hnew, hnodup⟩ := List.nodup_cons.mp hnodup
    rcases List.mem_cons.mp hx with rfl | hmem
    · rw [refreshCells_cons_of_slot hslot hold, refreshCells_untouched]
      · exact List.getElem?_set_self (List.getElem?_eq_some_iff.mp hold).1
      · intro y m hy hpos
        exact absurd (hpos ▸ List.mem_map_of_mem hy) hnew
    · have hne : c.position ≠ x.position := fun h => hnew (h ▸ List.mem_map_of_mem hmem)
      rcases refreshCells_cons (staged := rest) (cells := cells) c with ⟨m, old', -, -, hcons⟩ | ⟨-, hcons⟩
      · rw [hcons]
        exact ih hnodup hmem ((List.getElem?_set_ne hne).trans hold)
      · rw [hcons]
        exact ih hnodup hmem hold

end Blocks

end Sys2Proof.Machine
end


section
/-! PROOFS. GLYPH_FILL_END (sections 1.5, 2.4 and 6.9): the requesters that a fill answers, and what they do. -/

namespace Sys2Proof.Machine

/-- A fetch is in progress with nothing queued behind it, and no other entry waits at the three blocks. -/
structure State.Fills (s : State) (f : GlyphFetch) : Prop where
  part : s.part ≠ .resetting
  fetch : s.glyph.fetch = some f
  queue : s.glyph.queue = []
  pins : s.glyph.slots[f.slot].pins = 0
  unlisted : f.slot ∉ s.glyph.reclaim
  glyphEntries : s.glyph.entries = []
  laneEntries : s.lane.entries = []
  claims : s.raster.claims = []

theorem Blocks.Settles.glyphEnd_of_ring {b : Blocks} {r : RingId} {a : Answer}
    (hservice : ∃ v, b.glyph.service = some v ∧ v.ring = r) (hentries : b.glyph.entries = []) :
    Blocks.Settles 2 [.glyphEnd a] b
      (({ b with glyph := { b.glyph with service := none, staging := none } } : Blocks).answerEnded r a) := by
  obtain ⟨v, hv, rfl⟩ := hservice
  exact .glyphEnd hv hentries a

section

variable {s : State} {f : GlyphFetch} {read : ReadEnd} {audience : List Requester} {g g' : GlyphTable}
  {u : LaneUnit} {tasks : List Task} {b : Blocks} {k : Nat} {r : RingId} {a : Answer}

/-! ### The row (R18 to R20) -/

theorem exec_glyphFillEnd (hpart : s.part ≠ .resetting) :
    exec (.glyphFillEnd read) s = .next (s.runBlocks fun b => b.onGlyph (b.glyph.fillEnds read)) := by
  have hexec : exec (.glyphFillEnd read) s = execGlyphFillEnd read s := rfl
  rw [hexec, execGlyphFillEnd, State.quiesce_eq hpart]

theorem exec_glyphFillEnd_settles (hpart : s.part ≠ .resetting) (h : s.glyph.fillEnds read = (g, tasks))
    (hsettles : Blocks.Settles k tasks { s.blocks with glyph := g } b) (hk : k ≤ 1000) :
    exec (.glyphFillEnd read) s = .next (s.putBlocks b) :=
  (exec_glyphFillEnd hpart).trans (congrArg _ (State.runBlocks_of_settles (congrArg s.blocks.onGlyph h) hsettles hk))

/-- No answer is given. -/
theorem exec_glyphFillEnd_silent (hpart : s.part ≠ .resetting) (h : s.glyph.fillEnds read = (g, tasks))
    (hsettles : Blocks.Settles k tasks { s.blocks with glyph := g } { s.blocks with glyph := g', lane := u })
    (hk : k ≤ 1000) : exec (.glyphFillEnd read) s = .next ((s.withGlyph g').withLane u) := by
  rw [exec_glyphFillEnd_settles hpart h hsettles hk, State.putBlocks_of_silent _ rfl]
  rfl

/-- The entry in service of the Glyph Table ends. -/
theorem exec_glyphFillEnd_ends (hpart : s.part ≠ .resetting) (h : s.glyph.fillEnds read = (g, tasks))
    (hsettles : Blocks.Settles k tasks { s.blocks with glyph := g }
      (({ s.blocks with glyph := { g' with service := none, staging := none }, lane := u } : Blocks).answerEnded r a))
    (hk : k ≤ 1000) (hawaits : (s.ring r).awaitsAnswer = true) : exec (.glyphFillEnd read) s =
      .next (((s.withLane u).withGlyph { g' with service := none, staging := none }).withTransit { s.transit with
        answers := update s.transit.answers r (some a), glyphAnswers := s.transit.glyphAnswers ++ [r] }) := by
  rw [exec_glyphFillEnd_settles hpart h hsettles hk, State.putBlocks_answerEnded
    (b := { s.blocks with glyph := { g' with service := none, staging := none }, lane := u }) rfl hawaits]
  rfl

/-- The lane entry in service is answered. -/
theorem exec_glyphFillEnd_answers (hpart : s.part ≠ .resetting) (h : s.glyph.fillEnds read = (g, tasks))
    (hsettles : Blocks.Settles k tasks { s.blocks with glyph := g }
      (({ s.blocks with glyph := g', lane := u } : Blocks).answer r a))
    (hk : k ≤ 1000) (hawaits : (s.ring r).awaitsAnswer = true) : exec (.glyphFillEnd read) s =
      .next (((s.withGlyph g').withLane u).withTransit { s.transit with
        answers := update s.transit.answers r (some a) }) := by
  rw [exec_glyphFillEnd_settles hpart h hsettles hk, State.putBlocks_answered
    (b := { s.blocks with glyph := g', lane := u }) rfl hawaits]
  rfl

/-! ### The slot and its audience (R19, R20) -/

theorem State.Fills.good (h : s.Fills f) (hwait : s.glyph.slots[f.slot].defineWait = false)
    (haudience : s.glyph.fillAudience f = audience) (bytes : List Byte) : s.glyph.fillEnds (.ok bytes) =
      (s.glyph.residentAfter f bytes (audience.countP GlyphTable.pinning),
        audience.map fun w => .answered w (.slot f.slot)) := by
  rw [GlyphTable.fillEnds_ok h.fetch, GlyphTable.filled_of_no_define h.pins h.unlisted h.queue hwait, haudience]

theorem State.Fills.bad (h : s.Fills f) (hwait : s.glyph.slots[f.slot].defineWait = false)
    (haudience : s.glyph.fillAudience f = audience) : s.glyph.fillEnds .busError =
      (s.glyph.freedAfter f, audience.map fun w => .answered w .busError) := by
  rw [GlyphTable.fillEnds_busError h.fetch, GlyphTable.fillFailed_of_no_define h.queue hwait, haudience]

/-- The pinning requesters are TEXT and the lane edit (R11). -/
theorem GlyphTable.pinning_eq : GlyphTable.pinning = fun w => w == .text || w == .laneEdit := by
  funext w
  cases w <;> rfl

/-! ### A preload -/

variable {v : GlyphService} {face : FaceId} {bytes : List Byte}

theorem exec_fill_preload_fails (h : s.Fills f) (hwait : s.glyph.slots[f.slot].defineWait = false)
    (haudience : s.glyph.fillAudience f = [.preload]) (hservice : s.glyph.service = some v)
    (hawaits : (s.ring v.ring).awaitsAnswer = true) : exec (.glyphFillEnd .busError) s =
      .next ((s.withGlyph { s.glyph.freedAfter f with service := none, staging := none }).withTransit { s.transit with
        answers := update s.transit.answers v.ring (some (.failed .busError)),
        glyphAnswers := s.transit.glyphAnswers ++ [v.ring] }) := by
  let freed : Blocks := { s.blocks with glyph := s.glyph.freedAfter f }
  have hanswered : freed.doTask (.answered .preload .busError) = (freed, [.glyphEnd (.failed .busError)]) := by
    show freed.preloadAnswered .busError = _
    simp only [Blocks.preloadAnswered, show freed.glyph.service = some v from hservice]
  exact exec_glyphFillEnd_ends (u := s.lane) h.part (h.bad hwait haudience)
    (.cons hanswered (.glyphEnd (b := freed) hservice h.glyphEntries _)) (by decide) hawaits

theorem exec_fill_preload_last (h : s.Fills f) (hwait : s.glyph.slots[f.slot].defineWait = false)
    (haudience : s.glyph.fillAudience f = [.preload]) (hservice : s.glyph.service = some v)
    (hawaits : (s.ring v.ring).awaitsAnswer = true) (hlast : (v.entry.half 0x0A).toNat ≤ v.code) :
    exec (.glyphFillEnd (.ok bytes)) s =
      .next ((s.withGlyph { s.glyph.residentAfter f bytes 0 with service := none, staging := none }).withTransit
        { s.transit with
          answers := update s.transit.answers v.ring (some .done), glyphAnswers := s.transit.glyphAnswers ++ [v.ring] }) := by
  let filled : Blocks := { s.blocks with glyph := s.glyph.residentAfter f bytes 0 }
  exact exec_glyphFillEnd_ends (u := s.lane) h.part (h.good hwait haudience bytes)
    (.cons (Blocks.preload_last (b := filled) hservice hlast) (.glyphEnd (b := filled) hservice h.glyphEntries _))
    (by decide) hawaits

/-- The next code of a preload, after a fill that answered it. -/
theorem Blocks.fill_preload_next {t : GlyphTable} {lane : LaneUnit} {n : SlotId} (hservice : t.service = some v)
    (hf : v.entry.u8 0x04 = face.1) (hlast : v.code < (v.entry.half 0x0A).toNat)
    (hlooked : ({ t with service := some { v with code := v.code + 1 } } : GlyphTable).lookup .preload face
      (BitVec.ofNat 16 (v.code + 1)) = (g', tasks)) :
    ({ s.blocks with glyph := t, lane := lane } : Blocks).doTask (.answered .preload (.slot n)) =
      ({ s.blocks with glyph := g', lane := lane }, tasks) := by
  rw [Blocks.preload_next (b := { s.blocks with glyph := t, lane := lane }) hservice hf hlast, hlooked]
  rfl

/-- A preload that finds no slot for its next code ends PARTIAL with the codes from there on. -/
theorem Blocks.fill_preload_partial {lane : LaneUnit} (hservice : g'.service = some { v with code := v.code + 1 })
    (hlast : v.code < (v.entry.half 0x0A).toNat) :
    ({ s.blocks with glyph := g', lane := lane } : Blocks).doTask (.answered .preload .noSlot) =
      ({ s.blocks with glyph := g', lane := lane },
        [.glyphEnd ⟨.partially, BitVec.ofNat 16 ((v.entry.half 0x0A).toNat - v.code), 0⟩]) := by
  have hcode : (v.entry.half 0x0A).toNat - (v.code + 1) + 1 = (v.entry.half 0x0A).toNat - v.code := by omega
  refine (Blocks.preload_noSlot (b := { s.blocks with glyph := g', lane := lane }) hservice).trans ?_
  rw [hcode, Answer.partially_eq (Nat.lt_of_le_of_lt (Nat.sub_le _ _) (v.entry.half 0x0A).isLt) (by decide)]
  rfl

/-! ### A define that waits (R20, R25) -/

theorem State.Fills.good_define_room (h : s.Fills f) (hwait : s.glyph.slots[f.slot].defineWait = true)
    (haudience : s.glyph.fillAudience f = []) (hcount : (s.glyph.residentAfter f bytes 0).userCount < 128) :
    s.glyph.fillEnds (.ok bytes) = ({ s.glyph with
      fetch := none, slots := update s.glyph.slots f.slot { s.glyph.slots[f.slot] with
        state := .user, bitmap := GlyphTable.bitmapOf (s.glyph.staging.getD []), waiters := [], defineWait := false } },
      [.glyphEnd .done]) := by
  rw [GlyphTable.fillEnds_ok h.fetch, GlyphTable.filled_of_define_room h.pins h.unlisted h.queue hwait haudience hcount]

theorem State.Fills.good_define_full (h : s.Fills f) (hwait : s.glyph.slots[f.slot].defineWait = true)
    (haudience : s.glyph.fillAudience f = []) (hcount : 128 ≤ (s.glyph.residentAfter f bytes 0).userCount) :
    s.glyph.fillEnds (.ok bytes) = (s.glyph.residentAfter f bytes 0, [.glyphEnd ⟨.noSlot, 0, 1⟩]) := by
  rw [GlyphTable.fillEnds_ok h.fetch, GlyphTable.filled_of_define_full h.pins h.unlisted h.queue hwait haudience hcount]

theorem State.Fills.bad_define {key : Key} (h : s.Fills f) (hwait : s.glyph.slots[f.slot].defineWait = true)
    (haudience : s.glyph.fillAudience f = []) (hkey : s.glyph.slots[f.slot].key = some key)
    (hunheld : (s.glyph.freedAfter f).slotOf key = none) :
    s.glyph.fillEnds .busError = (s.glyph.freedAfter f).defineAllocate key := by
  rw [GlyphTable.fillEnds_busError h.fetch, GlyphTable.fillFailed_of_define h.queue hwait haudience hkey hunheld]

/-- The define in service ends with the fill. -/
theorem exec_fill_define_ends (h : s.Fills f) (hends : s.glyph.fillEnds read = (g, [.glyphEnd a]))
    (hservice : g.service = some v) (hentries : g.entries = []) (hawaits : (s.ring v.ring).awaitsAnswer = true) :
    exec (.glyphFillEnd read) s =
      .next ((s.withGlyph { g with service := none, staging := none }).withTransit { s.transit with
        answers := update s.transit.answers v.ring (some a), glyphAnswers := s.transit.glyphAnswers ++ [v.ring] }) :=
  exec_glyphFillEnd_ends (u := s.lane) h.part hends (.glyphEnd (b := { s.blocks with glyph := g }) hservice hentries _)
    (by decide) hawaits

/-! ### A lane edit (R39 to R41, R50) -/

variable {w : LaneService} {c : StagedCell} {t : GlyphTable} {n : SlotId}

/-- The lane edit stages the record that a fill answers, and waits for more of them. -/
theorem Blocks.fill_lane_waits (hservice : s.lane.service = some w) (hcurrent : w.current = some c) (htodo : w.todo = [])
    (hundelivered : 0 < w.undelivered) :
    ({ s.blocks with glyph := t } : Blocks).doTask (.answered .laneEdit (.slot n)) =
      ({ s.blocks with glyph := t, lane := { s.lane with
        staging := s.lane.staging ++ [{ c with cell := { c.cell with slot := some n } }],
        service := some { w with current := none } } }, []) := by
  refine (Blocks.laneAnswered_of_staged (b := { s.blocks with glyph := t }) hservice hcurrent (by simp)).trans ?_
  simp only [Blocks.stepEdit, htodo, Nat.ne_of_gt hundelivered, false_and, if_false]
  rfl

/-- The lane edit stages the record that a fill answers, and looks up the next. -/
theorem Blocks.fill_lane_next {next : StagedCell} {rest : List StagedCell} (hservice : s.lane.service = some w)
    (hcurrent : w.current = some c) (htodo : w.todo = next :: rest)
    (hlooked : t.lookup .laneEdit (s.laneAt w.lane).settings.face next.cell.code = (g', tasks)) :
    ({ s.blocks with glyph := t } : Blocks).doTask (.answered .laneEdit (.slot n)) =
      ({ s.blocks with glyph := g', lane := { s.lane with
        staging := s.lane.staging ++ [{ c with cell := { c.cell with slot := some n } }],
        service := some { w with todo := rest, current := some next } } }, tasks) :=
  (Blocks.laneAnswered_of_staged (b := { s.blocks with glyph := t }) hservice hcurrent (by simp)).trans
    (Blocks.stepEdit_of_todo rfl htodo hlooked)

theorem exec_fill_lane_fails (h : s.Fills f) (hwait : s.glyph.slots[f.slot].defineWait = false)
    (haudience : s.glyph.fillAudience f = [.laneEdit]) (hservice : s.lane.service = some w)
    (hcurrent : w.current = some c) (hawaits : (s.ring w.ring).awaitsAnswer = true) :
    exec (.glyphFillEnd .busError) s = .next (((s.withGlyph
      (GlyphTable.unpinAll (s.lane.staging.map fun x => x.cell.slot) (s.glyph.freedAfter f))).withLane { s.lane with
        staging := [], service := none, lostReads := s.lane.lostReads ++ w.read.toList }).withTransit { s.transit with
          answers := update s.transit.answers w.ring (some (.failed .busError)) }) := by
  let freed : Blocks := { s.blocks with glyph := s.glyph.freedAfter f }
  let left : Blocks := { s.blocks with
    glyph := (s.glyph.freedAfter f).unpinAll (s.lane.staging.map fun x => x.cell.slot)
    lane := { s.lane with staging := [], service := none, lostReads := s.lane.lostReads ++ w.read.toList } }
  have hanswered : freed.doTask (.answered .laneEdit .busError) = left.laneAnswer w.ring (.failed .busError) :=
    Blocks.laneAnswered_of_busError (b := freed) hservice hcurrent
  exact exec_glyphFillEnd_answers h.part (h.bad hwait haudience)
    (.cons hanswered (.laneTake (b := left.answer w.ring (.failed .busError)) h.laneEntries)) (by decide) hawaits

/-- A REFRESH commits with its last record. -/
theorem exec_fill_refresh_commits {cells : List TextCell} (h : s.Fills f)
    (hwait : s.glyph.slots[f.slot].defineWait = false) (haudience : s.glyph.fillAudience f = [.laneEdit])
    (hservice : s.lane.service = some w) (hcurrent : w.current = some c)
    (hawaits : (s.ring w.ring).awaitsAnswer = true) (hedit : w.edit = .refresh) (htodo : w.todo = [])
    (hundelivered : w.undelivered = 0) (hread : w.read = none)
    (hcells : Blocks.refreshCells (s.lane.staging ++ [{ c with cell := { c.cell with slot := some f.slot } }])
      (s.laneAt w.lane).cells = cells) : exec (.glyphFillEnd (.ok bytes)) s =
      .next (((s.withGlyph (s.glyph.residentAfter f bytes 1)).withLane { s.lane with
        lanes := update s.lane.lanes w.lane { s.laneAt w.lane with cells := cells }, staging := [],
        service := none }).withTransit { s.transit with
          answers := update s.transit.answers w.ring (some (Blocks.editAnswer 0 (missingCount cells))) }) := by
  let filled : Blocks := { s.blocks with glyph := s.glyph.residentAfter f bytes 1 }
  let left : Blocks := { filled with lane := { s.lane with
    lanes := update s.lane.lanes w.lane { s.laneAt w.lane with cells := cells }, staging := [], service := none } }
  have hanswered : filled.doTask (.answered .laneEdit (.slot f.slot)) =
      left.laneAnswer w.ring (Blocks.editAnswer 0 (missingCount cells)) :=
    (Blocks.laneAnswered_of_staged (b := filled) hservice hcurrent (by simp)).trans
      ((Blocks.stepEdit_of_end (v := { w with current := none }) rfl htodo hundelivered hread).trans
        (Blocks.commitEdit_of_refresh (v := { w with current := none }) hedit hcells))
  exact exec_glyphFillEnd_answers h.part (h.good hwait haudience bytes)
    (.cons hanswered (.laneTake (b := left.answer w.ring _) h.laneEntries)) (by decide) hawaits

/-! ### A TEXT (R114, R123) -/

variable {x : Claim}

theorem exec_fill_text_fails {d : SurfaceId} (h : s.Fills f) (hwait : s.glyph.slots[f.slot].defineWait = false)
    (haudience : s.glyph.fillAudience f = [.text]) (hservice : s.raster.service = some x)
    (hstamp : s.raster.stamp = none) (hkind : x.entry.kind = some .text) (hdst : x.entry.rasterArgs.dst = some d)
    (hawaits : (s.ring x.ring).awaitsAnswer = true) : exec (.glyphFillEnd .busError) s =
      .next ((((s.withGlyph (s.glyph.freedAfter f)).withSurfaces
        (update s.surfaces d { s.surfaceAt d with mark := false })).withRaster
          { RasterEngine.idle with lostReads := s.raster.lostReads }).withTransit { s.transit with
            answers := update s.transit.answers x.ring (some (.failed .busError)) }) := by
  let freed : Blocks := { s.blocks with glyph := s.glyph.freedAfter f }
  have hmarks : markedSurfaces s.surfaces x.entry.rasterArgs.dst x.entry.rasterArgs.src false =
      update s.surfaces d { s.surfaceAt d with mark := false } := by
    rw [hdst, (WorkEntry.rasterArgs_of_text hkind).2]
    exact markedSurfaces_single s.surfaces d false
  have hanswered : freed.doTask (.answered .text .busError) = freed.endOperation x (.failed .busError) := by
    show freed.textAnswered .busError = _
    simp only [Blocks.textAnswered, show freed.raster.service = some x from hservice, Blocks.failOperation]
    rw [Blocks.unpinStamp_of_no_slot (congrArg (·.bind Stamp.slot) hstamp)]
  rw [exec_glyphFillEnd_settles h.part (h.bad hwait haudience)
    (.cons hanswered (.endOperation (b := freed) h.claims x _)) (by decide),
    State.putBlocks_endOperation (b := freed) h.claims rfl hawaits, ← hmarks]
  rfl

theorem exec_fill_text_stamps {d : SurfaceId} {mix : Mix} {px py : Nat} (h : s.Fills f)
    (hwait : s.glyph.slots[f.slot].defineWait = false) (haudience : s.glyph.fillAudience f = [.text])
    (hservice : s.raster.service = some x) (hkind : x.entry.kind = some .text)
    (hdst : x.entry.rasterArgs.dst = some d) (hmix : x.entry.rasterArgs.mix = some mix)
    (hclear : x.entry.rasterArgs.paperClear = some false) :
    let left := x.entry.rasterArgs.dx + s.raster.codeIndex * s.raster.metrics.advance
    let bits := (GlyphTable.bitmapOf (halvesOf (f.read.len / 2) bytes)).toArray.getD
      ((py : Int) - x.entry.rasterArgs.dy).toNat 0
    StampAdmits x.entry.rasterArgs (s.surfaceAt d) s.raster.metrics left px py →
    (∀ x' y', StampAdmits x.entry.rasterArgs (s.surfaceAt d) s.raster.metrics left x' y' → px ≤ x' ∧ py ≤ y') →
    exec (.glyphFillEnd (.ok bytes)) s =
      .next ((s.withGlyph (s.glyph.residentAfter f bytes 1)).withRaster { s.raster with
        step := .drawing, stamp := some ⟨some f.slot⟩, drawing := some ⟨0, 0, bits,
          stampTransfer x.entry.rasterArgs (s.surfaceAt d) s.raster.metrics mix left bits px py⟩ }) := by
  intro left bits hadmits hfirst
  let filled : Blocks := { s.blocks with glyph := s.glyph.residentAfter f bytes 1 }
  have hsurface : s.blocks.surface x.entry.rasterArgs.dst = s.surfaceAt d := by
    rw [hdst]
    rfl
  have hbits : (s.glyph.residentAfter f bytes 1).slots[f.slot].bitmap.toArray.getD
      ((py : Int) - x.entry.rasterArgs.dy).toNat 0 = bits := by
    simp [GlyphTable.residentAfter, bits]
  have hanswered : filled.doTask (.answered .text (.slot f.slot)) = _ :=
    (Blocks.textAnswered_of_slot hservice).trans (Blocks.drawRows_of_stamp
      (b := { filled with raster := { s.raster with stamp := some ⟨some f.slot⟩ } })
      (WorkEntry.rasterArgs_of_text hkind).1 hsurface hmix hclear rfl rfl hbits hadmits hfirst)
  rw [exec_glyphFillEnd_settles h.part (h.good hwait haudience bytes) (.cons hanswered (.nil _)) (by decide),
    State.putBlocks_of_silent _ rfl]
  rfl

end

theorem GlyphTable.service_of_lookup {t g : GlyphTable} {who : Requester} {face : FaceId} {code : Half}
    {tasks : List Task} (h : t.lookup who face code = (g, tasks)) : g.service = t.service ∧ g.entries = t.entries := by
  have hrest := t.lookup_rest who face code
  rw [h] at hrest
  exact ⟨hrest.service, hrest.entries⟩

theorem Blocks.editAnswer_eq (cells : List TextCell) : Blocks.editAnswer 0 (missingCount cells) =
    if ∀ x ∈ cells, x.slot ≠ none then .done else .partially 0 (cells.countP fun x => x.slot.isNone) := by
  have hmissing : missingCount cells = 0 ↔ ∀ x ∈ cells, x.slot ≠ none := by
    simp [missingCount, List.countP_eq_zero]
  unfold editAnswer
  exact if_congr ((and_iff_right rfl).trans hmissing) rfl rfl

/-- Settles O44: the slot and its audience by `GlyphTable.filled_of_no_define`, and then each requester's act. -/
theorem glyphFillEndMakesTheSlotResident : Obligations.GlyphFillEndMakesTheSlotResident := by
  intro s f hpart hfetch hqueue hpins hunlisted hglyph hlane hclaims g slot audience rows filled freed
    ended answered good bad
  have h : s.Fills f := ⟨hpart, hfetch, hqueue, hpins, hunlisted, hglyph, hlane, hclaims⟩
  refine ⟨fun hwait => ⟨fun bytes => ?_, h.bad hwait rfl⟩, fun hwait haudience => ⟨fun bytes => ?_, ?_⟩,
    fun v face hwait haudience hservice hface hawaits =>
      ⟨exec_fill_preload_fails h hwait haudience hservice hawaits, fun bytes =>
        ⟨exec_fill_preload_last h hwait haudience hservice hawaits, fun g' hlt hlooked => ?_,
          fun g' n hlast hlooked => ?_⟩⟩,
    fun v hwait haudience hservice hawaits => ⟨fun bytes hcount => ?_, fun bytes hcount => ?_,
      fun key hkey hunheld => ⟨fun n hcount hfree hlowest => ?_, fun hcount => ?_⟩⟩,
    fun v c hwait haudience hservice hcurrent hawaits =>
      ⟨exec_fill_lane_fails h hwait haudience hservice hcurrent hawaits, fun bytes =>
        ⟨fun htodo hundelivered => ?_, fun next rest g' htodo hlooked => ?_,
          fun hedit htodo hundelivered hread => ?_⟩⟩,
    fun c d hwait haudience hservice hstep hstamp hfinishing hkind hdst hawaits =>
      ⟨exec_fill_text_fails h hwait haudience hservice hstamp hkind hdst hawaits,
        fun bytes mix x y hmix hclear hadmits hfirst =>
          exec_fill_text_stamps h hwait haudience hservice hkind hdst hmix hclear hadmits hfirst⟩,
    fun v c w face hwait haudience hlservice hcurrent htodo hundelivered hservice hface hawaits => ?_,
    fun v c next rest w face hwait hlservice hcurrent htodo hservice hface hlt bytes g1 g2 =>
      ⟨fun haudience hedit hpreload => ?_, fun haudience hpreload hedit => ?_⟩⟩
  · rw [← GlyphTable.pinning_eq]
    exact h.good hwait rfl bytes
  · exact exec_glyphFillEnd_silent (u := s.lane) hpart (h.good hwait haudience bytes) (.nil _) (by decide)
  · exact exec_glyphFillEnd_silent (u := s.lane) hpart (h.bad hwait haudience) (.nil _) (by decide)
  · exact exec_glyphFillEnd_silent (u := s.lane) hpart (h.good hwait haudience bytes)
      (.cons (Blocks.fill_preload_next hservice hface hlt hlooked) (.nil _)) (by decide)
  · obtain ⟨hservice', hentries⟩ := GlyphTable.service_of_lookup hlooked
    exact exec_glyphFillEnd_ends (u := s.lane) hpart (h.good hwait haudience bytes)
      (.cons (Blocks.fill_preload_next hservice hface (by omega) hlooked)
        (.cons (Blocks.preload_last (b := { s.blocks with glyph := g' }) hservice' hlast.ge)
          (.glyphEnd (b := { s.blocks with glyph := g' }) hservice' (hentries.trans hglyph) _))) (by decide) hawaits
  · exact exec_fill_define_ends h (h.good_define_room hwait haudience hcount) hservice hglyph hawaits
  · exact exec_fill_define_ends h (h.good_define_full hwait haudience hcount) hservice hglyph hawaits
  · exact exec_fill_define_ends h ((h.bad_define hwait haudience hkey hunheld).trans
      (GlyphTable.defineAllocate_of_some hcount (GlyphTable.allocate_of_lowest
        (GlyphTable.lowest_free_eq_some hfree hlowest)))) hservice hglyph hawaits
  · exact exec_fill_define_ends h ((h.bad_define hwait haudience hkey hunheld).trans
      (GlyphTable.defineAllocate_of_full hcount)) hservice hglyph hawaits
  · exact exec_glyphFillEnd_silent hpart (h.good hwait haudience bytes)
      (.cons (Blocks.fill_lane_waits hservice hcurrent htodo hundelivered) (.nil _)) (by decide)
  · exact exec_glyphFillEnd_silent hpart (h.good hwait haudience bytes)
      (.cons (Blocks.fill_lane_next hservice hcurrent htodo hlooked) (.nil _)) (by decide)
  · intro staged hnodup k
    refine ⟨_, Blocks.refreshCells_length staged k.cells, fun i old hold => ⟨fun x n hx hposition hslot => ?_,
      fun hnone => (Blocks.refreshCells_untouched hnone).trans hold⟩, ?_⟩
    · subst hposition
      exact Blocks.refreshCells_found hnodup hx hslot hold
    · refine (exec_fill_refresh_commits h hwait haudience hservice hcurrent hawaits hedit htodo hundelivered hread
        rfl).trans ?_
      rw [Blocks.editAnswer_eq]
      rfl
  · intro last bytes g' hlt hlooked
    obtain ⟨hservice', hentries⟩ := GlyphTable.service_of_lookup hlooked
    let u : LaneUnit := { s.lane with
      staging := s.lane.staging ++ [{ c with cell := { c.cell with slot := some f.slot } }],
      service := some { v with current := none } }
    have hends := Blocks.Settles.glyphEnd (b := { s.blocks with glyph := g', lane := u }) hservice'
      (hentries.trans hglyph) ⟨.partially, BitVec.ofNat 16 (last - w.code), 0⟩
    rcases haudience with haudience | haudience
    · exact exec_glyphFillEnd_ends hpart (h.good hwait haudience bytes)
        (.cons (Blocks.fill_lane_waits hlservice hcurrent htodo hundelivered)
          (.cons (Blocks.fill_preload_next hservice hface hlt hlooked)
            (.cons (Blocks.fill_preload_partial hservice' hlt) hends))) (by decide) hawaits
    · exact exec_glyphFillEnd_ends hpart (h.good hwait haudience bytes)
        (.cons (Blocks.fill_preload_next (lane := s.lane) hservice hface hlt hlooked)
          (.cons (Blocks.fill_lane_waits hlservice hcurrent htodo hundelivered)
            (.cons (Blocks.fill_preload_partial hservice' hlt) hends))) (by decide) hawaits
  · exact exec_glyphFillEnd_silent hpart (h.good hwait haudience bytes)
      (.cons (Blocks.fill_lane_next hlservice hcurrent htodo hedit) (.cons (Blocks.fill_preload_next
        ((GlyphTable.service_of_lookup hedit).1.trans hservice) hface hlt hpreload) (.nil _))) (by decide)
  · exact exec_glyphFillEnd_silent hpart (h.good hwait haudience bytes)
      (.cons (Blocks.fill_preload_next (lane := s.lane) hservice hface hlt hpreload)
        (.cons (Blocks.fill_lane_next hlservice hcurrent htodo hedit) (.nil _))) (by decide)

end Sys2Proof.Machine
end
